-- ==== Sys2Proof/Word.lean ====
section
/-! DEFINITION. The word types of the block: the 32-bit port and command word, the 8-bit sample, and the bit-string. -/

namespace Sys2Proof

/-- The 32-bit word of the host port and of a command (`20_memory.md` R51, `30_encoding.md` R80). Bit 0 is the least significant. -/
abbrev Word := BitVec 32

/-- An 8-bit sample (`00_scope.md` R10); also what one cell of the memory list holds. -/
abbrev Byte := BitVec 8

/-- A bit-string: a sequence of bits indexed from 0 (`00_scope.md` R8). The key functions are defined on any length. -/
abbrev BitString := List Bool

end Sys2Proof
end

