-- ==== Sys2Proof/Config.lean ====
section
/-! DEFINITION. The parameters of the block and the values its spec leaves free. -/

namespace Sys2Proof.Config

/-- KLEN, the length in bits of every key register: 128 in this hardware (`00_scope.md` R6; entry 10). -/
abbrev klen : Nat := 128

/-- NPL, the number of planes (`00_scope.md` R5). -/
abbrev planeCount : Nat := 24

/-- NCH, the number of channels (`00_scope.md` R5). -/
abbrev channelCount : Nat := 3

/-- The two storage parameters of `00_scope.md` R6 that the spec leaves OPEN. RMAX is the number of slots of the
schedule store, so the model reads it off the store itself (entry 1). -/
structure Params where
  /-- HMAX, rows of storage in every channel and plane. -/
  hmax : Nat
  /-- WMAX, columns of storage in every channel and plane. -/
  wmax : Nat
  deriving DecidableEq, Repr

/-- The constraints of `00_scope.md` R6 on HMAX and WMAX. -/
abbrev Params.Legal (p : Params) : Prop :=
  1 ≤ p.hmax ∧ p.hmax ≤ 4096 ∧ 1 ≤ p.wmax ∧ p.wmax ≤ 4096

/-- The storage size of the machine `State.reset` describes. DESIGN CHOICE (entry 1): the spec leaves HMAX and WMAX
OPEN, and 64 by 64 is what `95_test_vectors.md` uses. -/
def defaultParams : Params := { hmax := 64, wmax := 64 }

/-- RMAX of the machine `State.reset` describes: the default of `00_scope.md` R6 (entry 1). -/
abbrev defaultRmax : Nat := 16

end Sys2Proof.Config

namespace Sys2Proof

/-- A key register: KLEN bits, bit i at index i (`10_state.md` R24, `00_scope.md` R8). -/
abbrev Key := Vector Bool Config.klen

/-- A RoundKeyPair, one slot of the schedule store (`10_state.md` R26). -/
structure KeyPair where
  k1 : Key
  k2 : Key
  deriving DecidableEq, Repr

namespace Config

/-- What key slot `slot` (numbered as `20_memory.md` R56 numbers them) holds after the `n`th reset of a run.
A free value (entry 5): `10_state.md` R37 puts no constraint on it. -/
opaque residueKey (n slot : Nat) : Key

/-- The cells that IMG and PLN hold after the `n`th reset of a run. A free value (entry 5): `10_state.md` R37. -/
opaque residueCells (n : Nat) : List Host.Cell

/-- `h_rdata` of the `n`th read that gets an error response. A free value (entry 6): `20_memory.md` R58. -/
opaque errorData (n : Nat) : Word

end Config

end Sys2Proof
end

