-- ==== Sys2Proof/Syntax.lean ====
section
/-! DEFINITION. The command set: one constructor per row of the opcode map (`30_encoding.md` R83). -/

namespace Sys2Proof

/-- The DIR operand (`30_encoding.md` R81, R84): F is encode, DIR = 0; I is decode, DIR = 1. -/
inductive Dir where
  | fwd
  | inv
  deriving DecidableEq, Repr

/-- The commands, with their operands as the values of `30_encoding.md` R84: `p` an unsigned plane index, `steps` a
signed step count, `r` an unsigned round-slot index. Which values a command word can carry is `Instr.WellFormed`
(entry 15). -/
inductive Instr where
  | nop
  | errclr
  | decomp
  | recomp
  | rowp (dir : Dir)
  | colp (dir : Dir)
  | kupd
  | kst (r : Nat)
  | kld (r : Nat)
  | kfin
  | scr
  | uscr
  | frot (p : Nat) (steps : Int)
  | frotk (p : Nat) (dir : Dir)
  | frota (dir : Dir)
  | pshuf
  | enc
  | dec
  deriving DecidableEq, Repr

end Sys2Proof
end

