-- ==== Sys2Proof/Machine/State.lean ====
section
/-! DEFINITION. The state of the block, all of it (`10_state.md` R20), with the reasons a step could stop and the state
after reset. -/

namespace Sys2Proof.Machine

/-- STATUS (`10_state.md` R21, R23). The bits R21 shows as zero are no storage. -/
structure Status where
  busy : Bool
  done : Bool
  err : Bool
  errcode : BitVec 4
  deriving DecidableEq, Repr

/-- The stored elements of IMG and PLN: pairs of an element address of the host port (`20_memory.md` R57) and the byte
it holds, in the canonical form of `Memory.wf` (entries 3 and 11). -/
abbrev Memory := List Host.Cell

/-- A host-port transaction: `h_we`, `h_addr` and, for a write, `h_wdata` (`20_memory.md` R50, R52, R53). -/
inductive Transaction where
  | read (addr : Word)
  | write (addr : Word) (wdata : Word)
  deriving DecidableEq, Repr

/-- What the port answers at a completed transaction: `h_rdata` (for a read only) and `h_err` (`20_memory.md` R50). -/
inductive Response where
  | read (rdata : Word) (err : Bool)
  | write (err : Bool)
  deriving DecidableEq, Repr

/-- Which agent moves next (`00_scope.md` R17, `20_memory.md` R65, R69; entry 7). -/
inductive Turn where
  /-- The Host raises `h_req` with this transaction. -/
  | request (t : Transaction)
  /-- The outstanding transaction completes if it may. -/
  | grant
  /-- The Engine has its step if it has one. -/
  | engine
  /-- A rising edge with `rst = 1`. -/
  | reset
  /-- The Host's WAIT (`30_encoding.md` R89): it raises a read of STATUS. `early` of its reads complete before the Engine
  moves, which `70_reset_and_hazards.md` R230 leaves open (entry 8). -/
  | wait (early : Nat)
  /-- The Host's WAIT with its read raised: it ends with a read that sees BUSY 0, else it begins again. -/
  | waited (early : Nat)
  deriving DecidableEq, Repr

/-- The state of the block (`10_state.md` R20), the host port's (`20_memory.md` R50), and the model's own fields. -/
structure State where
  /-- STATUS, `10_state.md` R23. -/
  status : Status
  /-- DIMH, `10_state.md` R27. -/
  dimH : BitVec 13
  /-- DIMW, `10_state.md` R27. -/
  dimW : BitVec 13
  /-- ROUNDS, `10_state.md` R28. -/
  rounds : BitVec 7
  /-- PEND, the command word being executed, `10_state.md` R33. -/
  pend : Word
  /-- K1, `10_state.md` R24. -/
  k1 : Key
  /-- K2, `10_state.md` R24. -/
  k2 : Key
  /-- FK1, `10_state.md` R25. -/
  fk1 : Key
  /-- FK2, `10_state.md` R25. -/
  fk2 : Key
  /-- RKS, one pair per slot, slot r at index r; its length is RMAX, `10_state.md` R26 (entry 1). -/
  rks : List KeyPair
  /-- IMG and PLN, `10_state.md` R30, R31. -/
  mem : Memory
  /-- The transaction the Host holds on the port, `20_memory.md` R50. -/
  port : Option Transaction
  /-- The port's outputs at the last completed transaction, `20_memory.md` R50. -/
  response : Option Response
  /-- HMAX and WMAX, which no step changes, `00_scope.md` R6 (entry 1). -/
  params : Config.Params
  /-- The model's own: the turns to come, the next one first (entry 7). -/
  agenda : List Turn
  /-- The model's own: the resets the run has seen (entry 5). -/
  resets : Nat
  /-- The model's own: the reads that got an error response (entry 6). -/
  errReads : Nat
  deriving DecidableEq, Repr

/-- A reason for the machine to stop with a fault. It has no constructor: nobody raises one. An unmapped address is an
error response of the port (`20_memory.md` R58), a failed command is recorded in STATUS (`60_exceptions.md` R192), and
"a hanging state (stuck) does not exist" (`93_implementation_defined.md` V16); entry 13. Safe. -/
inductive Fault where
  deriving DecidableEq, Repr

/-- A reason for an instruction to have no meaning. -/
inductive Refusal where
  /-- Raised by the dispatcher for an instruction the model has no meaning for; no arm raises it now. Safe. -/
  | notModelled (mnemonic : String)
  deriving DecidableEq, Repr

/-- The outcome of a meaning or a step of this machine. -/
abbrev Outcome := Host.Outcome State Fault Refusal

/-- What the storage that reset does not clear holds: the key registers, the schedule store, IMG and PLN
(`10_state.md` R37). -/
structure Storage where
  k1 : Key
  k2 : Key
  fk1 : Key
  fk2 : Key
  rks : List KeyPair
  mem : Memory
  deriving DecidableEq, Repr

/-- The state after reset of a block of size `p` whose uncleared storage holds `c` (`10_state.md` R37,
`93_implementation_defined.md` V1: the initial contents are an argument). PEND is 0 (entry 4). -/
def State.powerUp (p : Config.Params) (c : Storage) : State :=
  { status := { busy := false, done := false, err := false, errcode := 0 }
    dimH := 0
    dimW := 0
    rounds := 3
    pend := 0
    k1 := c.k1
    k2 := c.k2
    fk1 := c.fk1
    fk2 := c.fk2
    rks := c.rks
    mem := c.mem
    port := none
    response := none
    params := p
    agenda := []
    resets := 0
    errReads := 0 }

/-- The key of 128 zero bits. -/
def zeroKey : Key := Vector.replicate Config.klen false

/-- Storage with every bit 0 and RMAX slots. DESIGN CHOICE (entries 2 and 3): the spec gives no contents. -/
def Storage.zero (rmax : Nat) : Storage :=
  { k1 := zeroKey
    k2 := zeroKey
    fk1 := zeroKey
    fk2 := zeroKey
    rks := List.replicate rmax { k1 := zeroKey, k2 := zeroKey }
    mem := [] }

/-- The machine right after reset (`10_state.md` R37), with the sizes of entry 1 and the contents of entries 2 and 3. -/
def State.reset : State := State.powerUp Config.defaultParams (Storage.zero Config.defaultRmax)

end Sys2Proof.Machine
end

