-- ==== Sys2Proof/Machine/Flags.lean ====
section
/-! DEFINITION. STATUS: its word on the port, and every change of its bits (`10_state.md` R22, R23, `60_exceptions.md`
R191, R192, R200). No data operation sets a flag. -/

namespace Sys2Proof.Machine

/-- The error causes (`60_exceptions.md` R191). -/
inductive ErrCode where
  /-- E_ILLCMD, R193. -/
  | illCmd
  /-- E_DIM, R194. -/
  | dim
  /-- E_PLANE, R195. -/
  | plane
  /-- E_ROUNDS, R196. -/
  | rounds
  deriving DecidableEq, Repr

/-- The value of STATUS.ERRCODE for a cause (`60_exceptions.md` R191). -/
def ErrCode.code : ErrCode → BitVec 4
  | .illCmd => 1
  | .dim => 2
  | .plane => 3
  | .rounds => 4

/-- STATUS as the port reads it: [0] BUSY, [1] DONE, [2] ERR, [11:8] ERRCODE, every other bit 0 (`10_state.md` R21). -/
def Status.word (st : Status) : Word :=
  0#20 ++ (st.errcode ++ (0#5 ++ (BitVec.ofBool st.err ++ (BitVec.ofBool st.done ++ BitVec.ofBool st.busy))))

/-- A command is accepted (`10_state.md` R22 case b). -/
def Status.accept (st : Status) : Status := { st with busy := true, done := false }

/-- A command completes without error (`10_state.md` R33 case b). -/
def Status.complete (st : Status) : Status := { st with busy := false, done := true }

/-- `raise Err(code)` (`60_exceptions.md` R192); DONE keeps the 0 it has had since acceptance. -/
def Status.raise (st : Status) (e : ErrCode) : Status :=
  { st with busy := false, err := true, errcode := e.code }

/-- The effect of ERRCLR on the error bits (`45_pipeline_system.md` R176). -/
def Status.clearError (st : Status) : Status := { st with err := false, errcode := 0 }

end Sys2Proof.Machine
end

