-- ==== Sys2Proof/Machine/Operands.lean ====
section
/-! DEFINITION. The operands of the commands: the floored modulus they are used with, the direction, the image size and
the round count with the tests that make them legal. -/

namespace Sys2Proof

/-- An amount taken in a direction: as it is for F, negated for I (`30_encoding.md` R84). -/
def Dir.signed (dir : Dir) (amount : Nat) : Int :=
  match dir with
  | .fwd => amount
  | .inv => -amount

end Sys2Proof

namespace Sys2Proof.Machine

/-- `a mod n`, the floored modulus (`00_scope.md` R9): `-1 mod 10 = 9`. -/
def wrap (a : Int) (n : Nat) : Nat := (a % (n : Int)).toNat

/-- H, the value of DIMH (`00_scope.md` R12). -/
def State.height (s : State) : Nat := s.dimH.toNat

/-- W, the value of DIMW (`00_scope.md` R12). -/
def State.width (s : State) : Nat := s.dimW.toNat

/-- The value of ROUNDS (`10_state.md` R28). -/
def State.roundCount (s : State) : Nat := s.rounds.toNat

/-- RMAX, the number of slots in the schedule store (`00_scope.md` R6; entry 1). -/
def State.rmax (s : State) : Nat := s.rks.length

/-- The image size is legal (`10_state.md` R27, `60_exceptions.md` R194). -/
abbrev State.DimsLegal (s : State) : Prop :=
  1 ≤ s.height ∧ s.height ≤ s.params.hmax ∧ 1 ≤ s.width ∧ s.width ≤ s.params.wmax

/-- The round count is legal (`10_state.md` R28, `60_exceptions.md` R196). -/
abbrev State.RoundsLegal (s : State) : Prop := 1 ≤ s.roundCount ∧ s.roundCount ≤ s.rmax

/-- The round slot exists (`60_exceptions.md` R196). -/
abbrev State.SlotLegal (s : State) (r : Nat) : Prop := r < s.rmax

/-- The plane exists (`60_exceptions.md` R195). -/
abbrev PlaneLegal (p : Nat) : Prop := p < Config.planeCount

end Sys2Proof.Machine
end

