-- ==== Sys2Proof/Machine/Ops.lean ====
section
/-! DEFINITION. The shared operations: the memory list, the image and plane cells and their active window, the key
registers, and accepting, completing and aborting a command. -/

namespace Sys2Proof.Machine

/-! ### The memory list -/

/-- What an unlisted address reads as. DESIGN CHOICE (entry 3). -/
def Memory.unlisted : Byte := 0

/-- The byte an element address holds. -/
def Memory.read : Memory → Nat → Byte
  | [], _ => Memory.unlisted
  | (b, w) :: m, a => if a = b then w else Memory.read m a

/-- Store a byte at an element address, keeping the canonical form. -/
def Memory.write : Memory → Nat → Byte → Memory
  | [], a, v => if v = Memory.unlisted then [] else [(a, v)]
  | (b, w) :: m, a, v =>
    if a < b then
      if v = Memory.unlisted then (b, w) :: m else (a, v) :: (b, w) :: m
    else if a = b then
      if v = Memory.unlisted then m else (a, v) :: m
    else (b, w) :: Memory.write m a v

/-- Store a list of cells, the first one first. -/
def Memory.writeAll (m : Memory) (cells : List Host.Cell) : Memory :=
  cells.foldl (fun m cell => m.write cell.1 cell.2) m

/-- Every listed address is above `a`. -/
def Memory.above (a : Nat) (m : Memory) : Bool := m.all fun cell => decide (a < cell.1)

/-- The canonical form: addresses strictly rising, and no entry equal to what an unlisted address reads as. -/
def Memory.wf : Memory → Bool
  | [] => true
  | (a, v) :: m => decide (v ≠ Memory.unlisted) && Memory.above a m && Memory.wf m

/-! ### Image and plane cells -/

/-- The element address of `IMG[c][y][x]` (`20_memory.md` R57). -/
def imgAddr (c y x : Nat) : Nat := 0x40000000 + c * 0x1000000 + y * 0x1000 + x

/-- The element address of `PLN[p][y][x]` (`20_memory.md` R57). -/
def plnAddr (p y x : Nat) : Nat := 0x60000000 + p * 0x1000000 + y * 0x1000 + x

/-- The byte that stands for a plane bit in the memory list (entry 11). -/
def bitByte (b : Bool) : Byte := (BitVec.ofBool b).setWidth 8

/-- `IMG[c][y][x]` (`10_state.md` R30). -/
def State.img (s : State) (c y x : Nat) : Byte := s.mem.read (imgAddr c y x)

/-- `PLN[p][y][x]` (`10_state.md` R31). -/
def State.pln (s : State) (p y x : Nat) : Bool := (s.mem.read (plnAddr p y x)).getLsbD 0

/-- The cells of the `h` by `w` window of the grids `gs`, grid `g` row `y` column `x` at `addr g y x` with the byte
`f g y x`. -/
def windowCells (addr : Nat → Nat → Nat → Nat) (gs : List Nat) (h w : Nat) (f : Nat → Nat → Nat → Byte) :
    List Host.Cell :=
  gs.flatMap fun g => (List.range h).flatMap fun y => (List.range w).map fun x => (addr g y x, f g y x)

/-- The three channels (`00_scope.md` R5). -/
def channels : List Nat := List.range Config.channelCount

/-- The 24 planes (`00_scope.md` R5). -/
def planes : List Nat := List.range Config.planeCount

/-- Replace the active window of every channel of IMG (`10_state.md` R27, R30); `f` is evaluated on the old state. -/
def State.setImgWindow (s : State) (f : Nat → Nat → Nat → Byte) : State :=
  { s with mem := s.mem.writeAll (windowCells imgAddr channels s.height s.width f) }

/-- Replace the active window of the planes `ps` of PLN (`10_state.md` R27, R31); `f` is evaluated on the old state. -/
def State.setPlnWindow (s : State) (ps : List Nat) (f : Nat → Nat → Nat → Bool) : State :=
  { s with mem := s.mem.writeAll (windowCells plnAddr ps s.height s.width fun p y x => bitByte (f p y x)) }

/-! ### Key registers -/

end Sys2Proof.Machine

namespace Sys2Proof

/-- The bit-string a key register holds (`00_scope.md` R8). -/
def Key.bits (k : Key) : BitString := k.toList

/-- The key register that holds a bit-string of length KLEN. -/
def Key.ofBits (b : BitString) : Key := Vector.ofFn fun i => b.getD i false

/-- Bit i of a key register (`20_memory.md` R56). -/
def Key.bit (k : Key) (i : Nat) : Bool := k.bits.getD i false

/-- A key register with bit i replaced (`20_memory.md` R60). -/
def Key.setBit (k : Key) (i : Nat) (b : Bool) : Key := k.setIfInBounds i b

end Sys2Proof

namespace Sys2Proof.Machine

/-- `RKS[r]` (`10_state.md` R26). -/
def State.pair (s : State) (r : Nat) : KeyPair := s.rks.getD r { k1 := zeroKey, k2 := zeroKey }

/-- `RKS[r] <- pair` (`10_state.md` R26). -/
def State.setPair (s : State) (r : Nat) (pair : KeyPair) : State := { s with rks := s.rks.set r pair }

/-- The key register in a slot of the KEY space (`20_memory.md` R56). -/
def State.key (s : State) : Nat → Key
  | 0 => s.k1
  | 1 => s.k2
  | 2 => s.fk1
  | 3 => s.fk2
  | n + 4 => if n % 2 = 0 then (s.pair (n / 2)).k1 else (s.pair (n / 2)).k2

/-- Replace the key register in a slot of the KEY space (`20_memory.md` R56). -/
def State.setKey (s : State) (slot : Nat) (k : Key) : State :=
  match slot with
  | 0 => { s with k1 := k }
  | 1 => { s with k2 := k }
  | 2 => { s with fk1 := k }
  | 3 => { s with fk2 := k }
  | n + 4 =>
    s.setPair (n / 2) (if n % 2 = 0 then { s.pair (n / 2) with k1 := k } else { s.pair (n / 2) with k2 := k })

/-! ### The pending command, its completion, its abort and the return from the error -/

/-- A command word is accepted: it goes to PEND and the Engine has a step (`10_state.md` R22 case b). -/
def State.accept (s : State) (w : Word) : State := { s with pend := w, status := s.status.accept }

/-- The word the Engine step decodes: PEND, exactly when BUSY is 1 (`10_state.md` R33). -/
def State.fetch (s : State) : Option Word := if s.status.busy then some s.pend else none

/-- The end of a command that met no error (`10_state.md` R33 case b). -/
def State.complete (s : State) : State := { s with status := s.status.complete }

/-- Taking the block's one kind of exception: `raise Err(code)`, no state but STATUS changed, no handler, nothing
saved (`60_exceptions.md` R192). -/
def State.raise (s : State) (e : ErrCode) : State := { s with status := s.status.raise e }

/-- The return from it: ERRCLR clears the error and restores nothing (`60_exceptions.md` R200). -/
def State.clearError (s : State) : State := { s with status := s.status.clearError }

/-- Go on only with a legal image size, else `raise Err(E_DIM)` (`60_exceptions.md` R194). -/
def State.withDims (s : State) (go : Outcome) : Outcome := if s.DimsLegal then go else .next (s.raise .dim)

/-- Go on only with a plane index of 0..23, else `raise Err(E_PLANE)` (`60_exceptions.md` R195). -/
def State.withPlane (s : State) (p : Nat) (go : Outcome) : Outcome :=
  if PlaneLegal p then go else .next (s.raise .plane)

/-- Go on only with a legal round count, else `raise Err(E_ROUNDS)` (`60_exceptions.md` R196). -/
def State.withRounds (s : State) (go : Outcome) : Outcome := if s.RoundsLegal then go else .next (s.raise .rounds)

/-- Go on only with a round slot that exists, else `raise Err(E_ROUNDS)` (`60_exceptions.md` R196). -/
def State.withSlot (s : State) (r : Nat) (go : Outcome) : Outcome :=
  if s.SlotLegal r then go else .next (s.raise .rounds)

end Sys2Proof.Machine
end

