-- ==== Sys2Proof/Machine/Codec.lean ====
section
/-! DEFINITION. The bitplane_decomposer unit: DECOMP and RECOMP (`42_bitplane_codec.md` R140 to R142). -/

namespace Sys2Proof.Machine

/-- The plane of channel c and bit position b (`42_bitplane_codec.md` R140). -/
def planeIndex (c b : Nat) : Nat := 8 * c + b

/-- DECOMP: plane p takes bit `p mod 8` of channel `floor(p/8)` (`42_bitplane_codec.md` R140, R141). -/
def State.decompose (s : State) : State :=
  s.setPlnWindow planes fun p y x => (s.img (p / 8) y x).getLsbD (p % 8)

/-- The OR of eight bits, bit b shifted left by b (`42_bitplane_codec.md` R142). -/
def joinBits (bits : Nat → Bool) : Byte :=
  (List.range 8).foldl (fun acc b => acc ||| (bitByte (bits b) <<< b)) 0

/-- RECOMP (`42_bitplane_codec.md` R142). -/
def State.recompose (s : State) : State :=
  s.setImgWindow fun c y x => joinBits fun b => s.pln (planeIndex c b) y x

/-- DECOMP (`42_bitplane_codec.md` R141). -/
def execDecomp (s : State) : Outcome := s.withDims (.next s.decompose.complete)

/-- RECOMP (`42_bitplane_codec.md` R142). -/
def execRecomp (s : State) : Outcome := s.withDims (.next s.recompose.complete)

end Sys2Proof.Machine
end

