-- ==== Sys2Proof/Machine/KeyFunctions.lean ====
section
/-! DEFINITION. The pure functions on bit-strings (`40_key_functions.md` R100 to R106) and the shifts and steps derived
from keys (`41_pixel_permutation.md` R120, `43_bitplane_rotator.md` R153). Outside the domain a rule names, a function
is completed totally and no command evaluates it there (entry 10). -/

namespace Sys2Proof.Machine

/-- `k[i]` (`00_scope.md` R8). -/
def bitAt (k : BitString) (i : Nat) : Bool := k.getD i false

/-- `getBits(k, start, n)` (`40_key_functions.md` R100). -/
def getBits (k : BitString) (start n : Nat) : BitString :=
  (List.range n).map fun j => bitAt k ((start + j) % k.length)

/-- `rotl1(k)` (`40_key_functions.md` R101). -/
def rotl1 (k : BitString) : BitString := (List.range k.length).map fun i => bitAt k ((i + 1) % k.length)

/-- `digit(q, m)` (`40_key_functions.md` R106). -/
def digit (q : BitString) (m : Nat) : Nat := (bitAt q m).toNat

/-- `win4(k, off)`, the first bit of the window most significant (`40_key_functions.md` R102). -/
def win4 (k : BitString) (off : Nat) : Nat :=
  let g := getBits k off 4
  8 * digit g 0 + 4 * digit g 1 + 2 * digit g 2 + digit g 3

/-- `reduce(k)`: every bit at a 1-based position divisible by 4 dropped (`40_key_functions.md` R103). -/
def reduce (k : BitString) : BitString :=
  ((List.range k.length).filter fun i => i % 4 != 3).map fun i => bitAt k i

/-- Step (b) of `update1` (`40_key_functions.md` R104): the first half xored with the second, which passes through. -/
def foldHalves (s : BitString) : BitString :=
  (List.range s.length).map fun i =>
    if i < s.length / 2 then bitAt s i ^^ bitAt s (i + s.length / 2) else bitAt s i

/-- Step (c) of `update1` (`40_key_functions.md` R104): the last bit flipped. -/
def flipLast (t : BitString) : BitString :=
  (List.range t.length).map fun i => if i + 1 = t.length then !bitAt t i else bitAt t i

/-- `update1(k)` (`40_key_functions.md` R104). -/
def update1 (k : BitString) : BitString := flipLast (foldHalves (rotl1 k))

/-- `rowshift(k, i, W)` (`41_pixel_permutation.md` R120). -/
def rowShift (k : BitString) (i w : Nat) : Nat := win4 k (4 * i % k.length) % w

/-- `colshift(k, j, H)` (`41_pixel_permutation.md` R120). -/
def colShift (k : BitString) (j h : Nat) : Nat := win4 k (4 * j % k.length) % h

/-- `fstep(a, b, idx)` (`43_bitplane_rotator.md` R153). -/
def fstep (a b : BitString) (idx : Nat) : Nat :=
  (digit (reduce a) (idx % (reduce a).length) + digit (reduce b) (idx % (reduce b).length)) % 5

end Sys2Proof.Machine

namespace Sys2Proof

/-- `update1` on a key register (`40_key_functions.md` R105: each key on its own). -/
def Key.update (k : Key) : Key := Key.ofBits (Machine.update1 k.bits)

end Sys2Proof
end

