-- ==== Sys2Proof/Machine/KeyCommands.lean ====
section
/-! DEFINITION. The key-register commands KUPD, KST, KLD, KFIN (`40_key_functions.md` R107 to R110). -/

namespace Sys2Proof.Machine

/-- `(K1, K2) <- update(K1, K2)` (`40_key_functions.md` R107). -/
def State.updateKeys (s : State) : State := { s with k1 := s.k1.update, k2 := s.k2.update }

/-- `RKS[r] <- (K1, K2)` (`40_key_functions.md` R108). -/
def State.storePair (s : State) (r : Nat) : State := s.setPair r { k1 := s.k1, k2 := s.k2 }

/-- `(K1, K2) <- RKS[r]` (`40_key_functions.md` R109). -/
def State.loadPair (s : State) (r : Nat) : State := { s with k1 := (s.pair r).k1, k2 := (s.pair r).k2 }

/-- `(FK1, FK2) <- (K1, K2)` (`40_key_functions.md` R110). -/
def State.finalPair (s : State) : State := { s with fk1 := s.k1, fk2 := s.k2 }

/-- KUPD (`40_key_functions.md` R107). -/
def execKupd (s : State) : Outcome := .next s.updateKeys.complete

/-- KST r (`40_key_functions.md` R108). -/
def execKst (r : Nat) (s : State) : Outcome := s.withSlot r (.next (s.storePair r).complete)

/-- KLD r (`40_key_functions.md` R109). -/
def execKld (r : Nat) (s : State) : Outcome := s.withSlot r (.next (s.loadPair r).complete)

/-- KFIN (`40_key_functions.md` R110). -/
def execKfin (s : State) : Outcome := .next s.finalPair.complete

end Sys2Proof.Machine
end

