-- ==== Sys2Proof/Machine/Permutation.lean ====
section
/-! DEFINITION. The pixel_permutation_engine: ROWP, COLP, SCR, USCR (`41_pixel_permutation.md` R121 to R124). -/

namespace Sys2Proof.Machine

/-- The row pass (`41_pixel_permutation.md` R121). The rule sends the sample at column x to column `(x ± s) mod W`;
read from the target, column x takes the sample at `(x ∓ s) mod W` (entry 14). -/
def State.rowPass (s : State) (dir : Dir) : State :=
  s.setImgWindow fun c y x =>
    s.img c y (wrap ((x : Int) - dir.signed (rowShift s.k1.bits y s.width)) s.width)

/-- The column pass (`41_pixel_permutation.md` R122), read from the target as the row pass is (entry 14). -/
def State.colPass (s : State) (dir : Dir) : State :=
  s.setImgWindow fun c y x =>
    s.img c (wrap ((y : Int) - dir.signed (colShift s.k2.bits x s.height)) s.height) x

/-- One round of SCR: KST r, ROWP F, COLP F, KUPD (`41_pixel_permutation.md` R123). -/
def State.scrambleRound (s : State) (r : Nat) : State :=
  (((s.storePair r).rowPass .fwd).colPass .fwd).updateKeys

/-- SCR: the rounds 0, 1, ..., ROUNDS-1, then KFIN (`41_pixel_permutation.md` R123). -/
def State.scramble (s : State) : State :=
  ((List.range s.roundCount).foldl State.scrambleRound s).finalPair

/-- One round of USCR: KLD r, COLP I, ROWP I (`41_pixel_permutation.md` R124). -/
def State.unscrambleRound (s : State) (r : Nat) : State := ((s.loadPair r).colPass .inv).rowPass .inv

/-- USCR: the rounds ROUNDS-1, ..., 0 (`41_pixel_permutation.md` R124). -/
def State.unscramble (s : State) : State := (List.range s.roundCount).reverse.foldl State.unscrambleRound s

/-- ROWP dir (`41_pixel_permutation.md` R121). -/
def execRowp (dir : Dir) (s : State) : Outcome := s.withDims (.next (s.rowPass dir).complete)

/-- COLP dir (`41_pixel_permutation.md` R122). -/
def execColp (dir : Dir) (s : State) : Outcome := s.withDims (.next (s.colPass dir).complete)

/-- SCR (`41_pixel_permutation.md` R123): both checks come before the first write. -/
def execScr (s : State) : Outcome := s.withDims (s.withRounds (.next s.scramble.complete))

/-- USCR (`41_pixel_permutation.md` R124): both checks come before the first write. -/
def execUscr (s : State) : Outcome := s.withDims (s.withRounds (.next s.unscramble.complete))

end Sys2Proof.Machine
end

