-- ==== Sys2Proof/Machine/Reorderer.lean ====
section
/-! DEFINITION. The plane_reorderer: PSHUF (`44_plane_reorderer.md` R170, R171). -/

namespace Sys2Proof.Machine

/-- `shuf(p)` (`44_plane_reorderer.md` R170). -/
def shuf (p : Nat) : Nat := 8 * (p / 8) + 7 - p % 8

/-- The plane order reversed inside each group of eight (`44_plane_reorderer.md` R171). -/
def State.shuffle (s : State) : State := s.setPlnWindow planes fun p y x => s.pln (shuf p) y x

/-- PSHUF (`44_plane_reorderer.md` R171). -/
def execPshuf (s : State) : Outcome := s.withDims (.next s.shuffle.complete)

end Sys2Proof.Machine
end

