-- ==== Sys2Proof/Machine/Rotator.lean ====
section
/-! DEFINITION. The bitplane_rotator: FROT, FROTK, FROTA (`43_bitplane_rotator.md` R150 to R157). -/

namespace Sys2Proof.Machine

/-- `ring(H, W)`, the border cells clockwise from the top-left corner, as (row, column) (`43_bitplane_rotator.md` R150). -/
def ring (h w : Nat) : List (Nat × Nat) :=
  (List.range w).map (fun x => (0, x))
    ++ (List.range (h - 2)).map (fun y => (y + 1, w - 1))
    ++ (List.range w).map (fun x => (h - 1, w - 1 - x))
    ++ (List.range (h - 2)).map (fun y => (h - 2 - y, 0))

/-- `frot(g, H, W, steps)` (`43_bitplane_rotator.md` R151), read from the target: ring position m takes the value of
ring position `(m - steps) mod n` (entry 14). -/
def frot (g : Nat → Nat → Bool) (h w : Nat) (steps : Int) (y x : Nat) : Bool :=
  if h < 2 ∨ w < 2 then g y x
  else
    match (ring h w).idxOf? (y, x) with
    | none => g y x
    | some m =>
      let source := (ring h w).getD (wrap ((m : Int) - steps) (ring h w).length) (y, x)
      g source.1 source.2

/-- The key-derived step of plane p in a direction (`43_bitplane_rotator.md` R156). -/
def State.planeSteps (s : State) (p : Nat) (dir : Dir) : Int := dir.signed (fstep s.fk1.bits s.fk2.bits p)

/-- Rotate the border of one plane's active window (`43_bitplane_rotator.md` R155). -/
def State.rotatePlane (s : State) (p : Nat) (steps : Int) : State :=
  s.setPlnWindow [p] fun q y x => frot (s.pln q) s.height s.width steps y x

/-- Rotate every plane by its key-derived step (`43_bitplane_rotator.md` R157). -/
def State.rotateAll (s : State) (dir : Dir) : State :=
  s.setPlnWindow planes fun p y x => frot (s.pln p) s.height s.width (s.planeSteps p dir) y x

/-- FROT p, steps (`43_bitplane_rotator.md` R155). -/
def execFrot (p : Nat) (steps : Int) (s : State) : Outcome :=
  s.withDims (s.withPlane p (.next (s.rotatePlane p steps).complete))

/-- FROTK p, dir (`43_bitplane_rotator.md` R156). -/
def execFrotk (p : Nat) (dir : Dir) (s : State) : Outcome :=
  s.withDims (s.withPlane p (.next (s.rotatePlane p (s.planeSteps p dir)).complete))

/-- FROTA dir (`43_bitplane_rotator.md` R157). -/
def execFrota (dir : Dir) (s : State) : Outcome := s.withDims (.next (s.rotateAll dir).complete)

end Sys2Proof.Machine
end

