-- ==== Sys2Proof/Machine/Pipeline.lean ====
section
/-! DEFINITION. The pipeline commands ENC and DEC (`45_pipeline_system.md` R177, R178). -/

namespace Sys2Proof.Machine

/-- SCR, DECOMP, FROTA F, PSHUF, RECOMP (`45_pipeline_system.md` R177). -/
def State.encodeImage (s : State) : State := (((s.scramble.decompose).rotateAll .fwd).shuffle).recompose

/-- DECOMP, PSHUF, FROTA I, RECOMP, USCR (`45_pipeline_system.md` R178). -/
def State.decodeImage (s : State) : State := (((s.decompose.shuffle).rotateAll .inv).recompose).unscramble

/-- ENC (`45_pipeline_system.md` R177): both checks come before the first write. -/
def execEnc (s : State) : Outcome := s.withDims (s.withRounds (.next s.encodeImage.complete))

/-- DEC (`45_pipeline_system.md` R178): both checks come before the first write. -/
def execDec (s : State) : Outcome := s.withDims (s.withRounds (.next s.decodeImage.complete))

end Sys2Proof.Machine
end

