-- ==== Sys2Proof/Machine/System.lean ====
section
/-! DEFINITION. The system commands NOP and ERRCLR (`45_pipeline_system.md` R175, R176). -/

namespace Sys2Proof.Machine

/-- NOP (`45_pipeline_system.md` R175). -/
def execNop (s : State) : Outcome := .next s.complete

/-- ERRCLR (`45_pipeline_system.md` R176). -/
def execErrclr (s : State) : Outcome := .next s.clearError.complete

end Sys2Proof.Machine
end

