-- ==== Sys2Proof/Machine/Dispatch.lean ====
section
/-! DEFINITION. The dispatcher: one arm per command (`30_encoding.md` R83). -/

namespace Sys2Proof.Machine

/-- The Engine's effect of a decoded command (`10_state.md` R33). -/
def exec (i : Instr) (s : State) : Host.Outcome State Fault Refusal :=
  match i with
  | .nop => Sys2Proof.Machine.execNop s
  | .errclr => Sys2Proof.Machine.execErrclr s
  | .decomp => Sys2Proof.Machine.execDecomp s
  | .recomp => Sys2Proof.Machine.execRecomp s
  | .rowp dir => Sys2Proof.Machine.execRowp dir s
  | .colp dir => Sys2Proof.Machine.execColp dir s
  | .kupd => Sys2Proof.Machine.execKupd s
  | .kst r => Sys2Proof.Machine.execKst r s
  | .kld r => Sys2Proof.Machine.execKld r s
  | .kfin => Sys2Proof.Machine.execKfin s
  | .scr => Sys2Proof.Machine.execScr s
  | .uscr => Sys2Proof.Machine.execUscr s
  | .frot p steps => Sys2Proof.Machine.execFrot p steps s
  | .frotk p dir => Sys2Proof.Machine.execFrotk p dir s
  | .frota dir => Sys2Proof.Machine.execFrota dir s
  | .pshuf => Sys2Proof.Machine.execPshuf s
  | .enc => Sys2Proof.Machine.execEnc s
  | .dec => Sys2Proof.Machine.execDec s

end Sys2Proof.Machine
end

