-- ==== Sys2Proof/WellFormed.lean ====
section
/-! DEFINITION. Which operands a command word can carry (`30_encoding.md` R81, R84). -/

namespace Sys2Proof

/-- P is a 5-bit field: 0..31 (`30_encoding.md` R84). -/
abbrev planeField (p : Nat) : Prop := p < 32

/-- IMM of format PI is a 16-bit two's-complement integer (`30_encoding.md` R84). -/
abbrev stepsField (steps : Int) : Prop := -32768 ≤ steps ∧ steps ≤ 32767

/-- IMM of format R is a 16-bit unsigned integer (`30_encoding.md` R84). -/
abbrev slotField (r : Nat) : Prop := r < 65536

/-- The operands fit the fields of the command's format. -/
def Instr.wellFormed : Instr → Bool
  | .nop => true
  | .errclr => true
  | .decomp => true
  | .recomp => true
  | .rowp _ => true
  | .colp _ => true
  | .kupd => true
  | .kst r => decide (slotField r)
  | .kld r => decide (slotField r)
  | .kfin => true
  | .scr => true
  | .uscr => true
  | .frot p steps => decide (planeField p) && decide (stepsField steps)
  | .frotk p _ => decide (planeField p)
  | .frota _ => true
  | .pshuf => true
  | .enc => true
  | .dec => true

/-- A well-formed command: one that some command word stands for. -/
abbrev Instr.WellFormed (i : Instr) : Prop := i.wellFormed = true

end Sys2Proof
end

