-- ==== Sys2Proof/Decode.lean ====
section
/-! DEFINITION. The command word: its fields and formats, the opcode table, the decoder, and after it the encoder
(`30_encoding.md` R80 to R87). -/

namespace Sys2Proof

/-- OP, bits 7..0 (`30_encoding.md` R81). -/
def opField (w : Word) : BitVec 8 := w.extractLsb' 0 8

/-- DIR, bit 8: 0 is forward, 1 is inverse (`30_encoding.md` R81, R84). -/
def dirField (w : Word) : Dir := if w.getLsbD 8 then .inv else .fwd

/-- P, bits 13..9, unsigned (`30_encoding.md` R81, R84). -/
def pField (w : Word) : Nat := (w.extractLsb' 9 5).toNat

/-- IMM, bits 31..16 (`30_encoding.md` R81). -/
def immField (w : Word) : BitVec 16 := w.extractLsb' 16 16

/-- The five formats (`30_encoding.md` R82). -/
inductive Format where
  | n
  | d
  | pi
  | pd
  | r
  deriving DecidableEq, Repr

/-- The bits of the word that are not operand bits: OP and the must-be-zero bits (`30_encoding.md` R82). -/
def Format.mask : Format → Word
  | .n => 0xFFFFFFFF#32
  | .d => 0xFFFFFEFF#32
  | .pi => 0x0000C1FF#32
  | .pd => 0xFFFFC0FF#32
  | .r => 0x0000FFFF#32

/-- One row of the opcode map (`30_encoding.md` R83): its mnemonic, OP value and format, and the command a word of the
row stands for. -/
structure Row where
  mnemonic : String
  op : BitVec 8
  format : Format
  operands : Word → Instr

/-- The row's `match`: its OP value, every other masked bit 0 (`30_encoding.md` R82). -/
def Row.matchWord (row : Row) : Word := row.op.setWidth 32

/-- The complete opcode map (`30_encoding.md` R83). -/
def opcodeTable : List Row :=
  [ ⟨"NOP", 0x00#8, .n, fun _ => .nop⟩,
    ⟨"ERRCLR", 0x01#8, .n, fun _ => .errclr⟩,
    ⟨"DECOMP", 0x10#8, .n, fun _ => .decomp⟩,
    ⟨"RECOMP", 0x11#8, .n, fun _ => .recomp⟩,
    ⟨"ROWP", 0x20#8, .d, fun w => .rowp (dirField w)⟩,
    ⟨"COLP", 0x21#8, .d, fun w => .colp (dirField w)⟩,
    ⟨"KUPD", 0x22#8, .n, fun _ => .kupd⟩,
    ⟨"KST", 0x23#8, .r, fun w => .kst (immField w).toNat⟩,
    ⟨"KLD", 0x24#8, .r, fun w => .kld (immField w).toNat⟩,
    ⟨"KFIN", 0x25#8, .n, fun _ => .kfin⟩,
    ⟨"SCR", 0x26#8, .n, fun _ => .scr⟩,
    ⟨"USCR", 0x27#8, .n, fun _ => .uscr⟩,
    ⟨"FROT", 0x30#8, .pi, fun w => .frot (pField w) (immField w).toInt⟩,
    ⟨"FROTK", 0x31#8, .pd, fun w => .frotk (pField w) (dirField w)⟩,
    ⟨"FROTA", 0x32#8, .d, fun w => .frota (dirField w)⟩,
    ⟨"PSHUF", 0x40#8, .n, fun _ => .pshuf⟩,
    ⟨"ENC", 0x50#8, .n, fun _ => .enc⟩,
    ⟨"DEC", 0x51#8, .n, fun _ => .dec⟩ ]

/-- Why a word is illegal (`30_encoding.md` R85). -/
inductive DecodeError where
  /-- OP is none of the 18 listed values. -/
  | unknownOp (op : BitVec 8)
  /-- OP is listed, and a bit its format requires to be zero is 1. -/
  | mustBeZero (mnemonic : String)
  deriving DecidableEq, Repr

/-- Decoding (`30_encoding.md` R86): read OP, look up the row, test the must-be-zero bits, extract the operands. -/
def decode (w : Word) : Except DecodeError Instr :=
  match opcodeTable.find? (fun row => row.op == opField w) with
  | none => .error (.unknownOp (opField w))
  | some row =>
    if w &&& row.format.mask = row.matchWord then .ok (row.operands w) else .error (.mustBeZero row.mnemonic)

/-- The instruction the decoder reads from the word whose low `nbits` bits are `w`; every command is one 32-bit word
(`30_encoding.md` R80), bit 0 the least significant. -/
def decodeTableWord (nbits w : Nat) : Option Instr :=
  match decode (BitVec.ofNat 32 (w % 2 ^ nbits)) with
  | .ok i => some i
  | .error _ => none

/-- The bit that DIR carries (`30_encoding.md` R84). -/
def Dir.bit : Dir → BitVec 1
  | .fwd => 0#1
  | .inv => 1#1

/-- The word of `30_encoding.md` R81 from its fields IMM, P, DIR, OP, with RSV zero. -/
def assemble (imm : BitVec 16) (p : BitVec 5) (dir : BitVec 1) (op : BitVec 8) : Word :=
  imm ++ (0#2 ++ (p ++ (dir ++ op)))

/-- The command word of a well-formed command (`30_encoding.md` R82 to R84). An operand that does not fit its field has
no word in the rules; here it loses the bits that do not fit. DESIGN CHOICE (entry 15). -/
def encode : Instr → Word
  | .nop => assemble 0 0 0 0x00
  | .errclr => assemble 0 0 0 0x01
  | .decomp => assemble 0 0 0 0x10
  | .recomp => assemble 0 0 0 0x11
  | .rowp dir => assemble 0 0 dir.bit 0x20
  | .colp dir => assemble 0 0 dir.bit 0x21
  | .kupd => assemble 0 0 0 0x22
  | .kst r => assemble (BitVec.ofNat 16 r) 0 0 0x23
  | .kld r => assemble (BitVec.ofNat 16 r) 0 0 0x24
  | .kfin => assemble 0 0 0 0x25
  | .scr => assemble 0 0 0 0x26
  | .uscr => assemble 0 0 0 0x27
  | .frot p steps => assemble (BitVec.ofInt 16 steps) (BitVec.ofNat 5 p) 0 0x30
  | .frotk p dir => assemble 0 (BitVec.ofNat 5 p) dir.bit 0x31
  | .frota dir => assemble 0 0 dir.bit 0x32
  | .pshuf => assemble 0 0 0 0x40
  | .enc => assemble 0 0 0 0x50
  | .dec => assemble 0 0 0 0x51

end Sys2Proof
end

