-- ==== Sys2Proof/Machine/HostPort.lean ====
section
/-! DEFINITION. The host port: the address map, the element accesses, the completed transaction and the stall
(`20_memory.md` R50 to R60, `10_state.md` R21 to R35). -/

namespace Sys2Proof.Machine

/-- The element a mapped address names (`20_memory.md` R51, R54 to R57). -/
inductive Element where
  | csr (n : Nat)
  | keyBit (slot i : Nat)
  | img (c y x : Nat)
  | pln (p y x : Nat)
  deriving DecidableEq, Repr

/-- The address map (`20_memory.md` R54 to R57): the element address `a` names, or none where it is unmapped. -/
def decodeAddr (params : Config.Params) (rmax a : Nat) : Option Element :=
  let y := a / 0x1000 % 0x1000
  let x := a % 0x1000
  let g := a / 0x1000000 % 0x20
  let slot := a / 0x400 % 0x80
  let i := a % 0x400
  match a / 0x20000000 with
  | 0 => if a ≤ 6 then some (.csr a) else none
  | 1 =>
    if a / 0x20000 % 0x1000 = 0 ∧ slot < 4 + 2 * rmax ∧ i < Config.klen then some (.keyBit slot i) else none
  | 2 => if g < Config.channelCount ∧ y < params.hmax ∧ x < params.wmax then some (.img g y x) else none
  | 3 => if g < Config.planeCount ∧ y < params.hmax ∧ x < params.wmax then some (.pln g y x) else none
  | _ => none

/-- The element of this block that an address names. -/
def State.element (s : State) (addr : Word) : Option Element := decodeAddr s.params s.rmax addr.toNat

/-- PARAM0 (`10_state.md` R29). -/
def State.param0 (s : State) : Word := BitVec.ofNat 32 (Config.klen + s.rmax * 0x10000)

/-- PARAM1 (`10_state.md` R29). -/
def State.param1 (s : State) : Word := BitVec.ofNat 32 (s.params.hmax + s.params.wmax * 0x10000)

/-- What a read of a CSR returns (`10_state.md` R21, R35); CMD reads 0 (`10_state.md` R22). -/
def State.readCsr (s : State) (n : Nat) : Word :=
  match n with
  | 1 => s.status.word
  | 2 => s.dimH.setWidth 32
  | 3 => s.dimW.setWidth 32
  | 4 => s.rounds.setWidth 32
  | 5 => s.param0
  | 6 => s.param1
  | _ => 0

/-- The ERRCLR word (`10_state.md` R22). -/
def errclrWord : Word := 0x00000001

/-- A write of CMD with BUSY = 0 (`10_state.md` R22): discarded while ERR = 1 unless it is the ERRCLR word. -/
def State.writeCmd (s : State) (w : Word) : State :=
  if s.status.err ∧ w ≠ errclrWord then s else s.accept w

/-- A write of a CSR (`10_state.md` R22, R27, R28, R35). -/
def State.writeCsr (s : State) (n : Nat) (w : Word) : State :=
  match n with
  | 0 => s.writeCmd w
  | 2 => { s with dimH := w.setWidth 13 }
  | 3 => { s with dimW := w.setWidth 13 }
  | 4 => { s with rounds := w.setWidth 7 }
  | _ => s

/-- The value of an element, zero-extended (`20_memory.md` R52, R60). -/
def State.readElement (s : State) : Element → Word
  | .csr n => s.readCsr n
  | .keyBit slot i => (bitByte ((s.key slot).bit i)).setWidth 32
  | .img c y x => (s.img c y x).setWidth 32
  | .pln p y x => (bitByte (s.pln p y x)).setWidth 32

/-- A write of an element: the low bits of the word that fit its width (`20_memory.md` R53, R60). -/
def State.writeElement (s : State) (e : Element) (w : Word) : State :=
  match e with
  | .csr n => s.writeCsr n w
  | .keyBit slot i => s.setKey slot ((s.key slot).setBit i (w.getLsbD 0))
  | .img c y x => { s with mem := s.mem.write (imgAddr c y x) (w.setWidth 8) }
  | .pln p y x => { s with mem := s.mem.write (plnAddr p y x) (bitByte (w.getLsbD 0)) }

/-- A transaction completes (`20_memory.md` R52, R53); an unmapped address gets the error response, and its read data
is a free value (`20_memory.md` R58; entry 6). -/
def State.transact (s : State) (t : Transaction) : State :=
  match t with
  | .read addr =>
    match s.element addr with
    | some e => { s with port := none, response := some (.read (s.readElement e) false) }
    | none =>
      { s with port := none, response := some (.read (Config.errorData s.errReads) true), errReads := s.errReads + 1 }
  | .write addr w =>
    match s.element addr with
    | some e => { s.writeElement e w with port := none, response := some (.write false) }
    | none => { s with port := none, response := some (.write true) }

/-- A read of the CSR space, mapped or not (`20_memory.md` R59). -/
def Transaction.isCsrRead : Transaction → Bool
  | .read addr => addr.toNat / 0x20000000 == 0
  | .write _ _ => false

/-- The transaction is held: BUSY is 1 and it is no read of the CSR space (`20_memory.md` R59). -/
def State.holds (s : State) (t : Transaction) : Bool := s.status.busy && !t.isCsrRead

end Sys2Proof.Machine
end

