-- ==== Sys2Proof/Machine/Reset.lean ====
section
/-! DEFINITION. A reset during a run (`70_reset_and_hazards.md` R220, R221; entry 5). -/

namespace Sys2Proof

/-- The key slots a command only reads: read and not written in the table of `10_state.md` R36. -/
def Instr.onlyReadsKey (i : Instr) (s : Machine.State) (slot : Nat) : Bool :=
  match i with
  | .nop => false
  | .errclr => false
  | .decomp => false
  | .recomp => false
  | .rowp _ => slot == 0
  | .colp _ => slot == 1
  | .kupd => false
  | .kst _ => slot < 2
  | .kld r => slot == 4 + 2 * r || slot == 5 + 2 * r
  | .kfin => slot < 2
  | .scr => false
  | .uscr => 4 ≤ slot && slot < 4 + 2 * s.roundCount
  | .frot _ _ => false
  | .frotk _ _ => 2 ≤ slot && slot < 4
  | .frota _ => 2 ≤ slot && slot < 4
  | .pshuf => false
  | .enc => false
  | .dec => 2 ≤ slot && slot < 4 + 2 * s.roundCount

end Sys2Proof

namespace Sys2Proof.Machine

/-- The command a reset abandons: the pending one, if PEND is a command (`70_reset_and_hazards.md` R221). -/
def State.abandoned (s : State) : Option Instr :=
  match s.fetch with
  | none => none
  | some w => (decode w).toOption

/-- What a reset leaves in a key slot: unspecified (`10_state.md` R37), but unchanged where the abandoned command only
reads it (`70_reset_and_hazards.md` R221). -/
def State.keyAfterReset (s : State) (slot : Nat) : Key :=
  match s.abandoned with
  | some i => if i.onlyReadsKey s slot then s.key slot else Config.residueKey s.resets slot
  | none => Config.residueKey s.resets slot

/-- What the element at an address can hold of a byte: a sample all of it, a plane bit its bit 0, no element nothing
(`20_memory.md` R57, R60). -/
def fitByte (params : Config.Params) (a : Nat) (v : Byte) : Byte :=
  match decodeAddr params 0 a with
  | some (.img _ _ _) => v
  | some (.pln _ _ _) => v &&& 1
  | _ => 0

/-- The unspecified contents of IMG and PLN after a reset (`10_state.md` R37), in the canonical form. -/
def State.residueMem (s : State) : Memory :=
  Memory.writeAll [] ((Config.residueCells s.resets).map fun cell => (cell.1, fitByte s.params cell.1 cell.2))

/-- What a reset leaves in IMG and PLN: unspecified (`10_state.md` R37), but the active window that the abandoned
command only reads is unchanged (`70_reset_and_hazards.md` R221): DECOMP only reads IMG, RECOMP only reads PLN. -/
def State.memAfterReset (s : State) : Memory :=
  let h := min s.height s.params.hmax
  let w := min s.width s.params.wmax
  match s.abandoned with
  | some .decomp => s.residueMem.writeAll (windowCells imgAddr channels h w s.img)
  | some .recomp => s.residueMem.writeAll (windowCells plnAddr planes h w fun p y x => bitByte (s.pln p y x))
  | _ => s.residueMem

/-- What a reset leaves in the storage it does not clear. -/
def State.storageAfterReset (s : State) : Storage :=
  { k1 := s.keyAfterReset 0
    k2 := s.keyAfterReset 1
    fk1 := s.keyAfterReset 2
    fk2 := s.keyAfterReset 3
    rks := (List.range s.rmax).map fun r => { k1 := s.keyAfterReset (4 + 2 * r), k2 := s.keyAfterReset (5 + 2 * r) }
    mem := s.memAfterReset }

/-- A rising edge with `rst = 1` (`70_reset_and_hazards.md` R220, R221): the state of `10_state.md` R37, the transaction
in progress dropped, the pending command abandoned. -/
def State.resetEdge (s : State) : State :=
  { State.powerUp s.params s.storageAfterReset with
      agenda := s.agenda, resets := s.resets + 1, errReads := s.errReads }

end Sys2Proof.Machine
end

