-- ==== Sys2Proof/Machine/Engine.lean ====
section
/-! DEFINITION. The atomic steps of the two agents and which of them comes next (`00_scope.md` R17, R18, `10_state.md`
R33, `20_memory.md` R59, R65; entry 7). -/

namespace Sys2Proof.Machine

/-- The Engine step on the fetched word (`10_state.md` R33): an illegal word raises E_ILLCMD before any other check
(`60_exceptions.md` R193). -/
def State.engineStep (s : State) (w : Word) : Outcome :=
  match decode w with
  | .ok i => exec i s
  | .error _ => .next (s.raise .illCmd)

/-- The step when nothing else is asked for: the Engine's if it has one, else the completion of the outstanding
transaction, else nothing happens. -/
def State.settle (s : State) : Outcome :=
  match s.fetch with
  | some w => s.engineStep w
  | none =>
    match s.port with
    | some t => .next (s.transact t)
    | none => .next s

/-- The outstanding transaction completes, unless it is held (`20_memory.md` R59). -/
def State.grant (s : State) : State :=
  match s.port with
  | none => s
  | some t => if s.holds t then s else s.transact t

/-- The last value read has bit 0, BUSY in a value of STATUS, at 1: a WAIT goes on (`30_encoding.md` R89). -/
def State.sawBusy (s : State) : Bool :=
  match s.response with
  | some (.read v _) => v.getLsbD 0
  | some (.write _) => false
  | none => false

/-- The step of a WAIT whose read of STATUS is raised (`30_encoding.md` R89): an early read completes, and once the read
is answered the value read decides whether the Host reads again. -/
def State.afterPoll (s : State) (early : Nat) : State :=
  match s.port with
  | some _ => State.grant { s with agenda := .waited (early - 1) :: s.agenda }
  | none => if s.sawBusy then { s with agenda := .wait early :: s.agenda } else s

/-- The step of one turn of the agenda, `s` being the state with that turn taken off. -/
def State.takeTurn (s : State) : Turn → Outcome
  | .request t =>
    match s.port with
    | none => .next { s with port := some t }
    | some _ => .next s
  | .grant => .next s.grant
  | .engine =>
    match s.fetch with
    | none => .next s
    | some w => s.engineStep w
  | .reset => .next s.resetEdge
  | .wait early =>
    match s.port with
    | none => .next { s with port := some (.read 0x00000001), agenda := .waited early :: s.agenda }
    | some _ => .next s
  | .waited early => .next (s.afterPoll early)

/-- The Host cannot raise a second request (`20_memory.md` R50): the turn waits until the port is free. So does a WAIT
for the answer of a read that is not early. -/
def State.mustWait (s : State) : Turn → Bool
  | .request _ => s.port.isSome
  | .grant => false
  | .engine => false
  | .reset => false
  | .wait _ => s.port.isSome
  | .waited early => early == 0 && s.port.isSome

/-- One step of the machine: the next turn of the agenda, or `settle` when there is none or it has to wait. -/
def State.advance (s : State) : Outcome :=
  match s.agenda with
  | [] => s.settle
  | turn :: rest => if s.mustWait turn then s.settle else State.takeTurn { s with agenda := rest } turn

end Sys2Proof.Machine
end

