-- ==== Sys2Proof/Machine/Step.lean ====
section
/-! DEFINITION. The step function, and the state whose next step runs a given command. -/

namespace Sys2Proof.Machine

/-- One atomic step of the block and its Host (`20_memory.md` R65). -/
def step (s : State) : Host.Outcome State Fault Refusal := s.advance

/-- `s` with the command whose low `nbits` bits are `w` accepted into PEND and no turn before the Engine's, so that the
next step is its Engine step (entry 8). -/
def State.withFetchWord (s : State) (nbits w : Nat) : State :=
  { s.accept (BitVec.ofNat 32 (w % 2 ^ nbits)) with agenda := [] }

end Sys2Proof.Machine
end

