-- ==== Sys2Proof/Machine/HostProgram.lean ====
section
/-! DEFINITION. A Host program: the lines of `30_encoding.md` R88, R89, which of them have the form the rules give, and
the turns of the Host they stand for. -/

namespace Sys2Proof.Machine

/-- A line of a Host program (`30_encoding.md` R88, R89). -/
inductive HostLine where
  /-- A command, one write of its word to CMD. -/
  | command (i : Instr)
  /-- `FUNROT p, s`, another spelling of `FROT p, -s`. -/
  | funrot (p : Nat) (s : Int)
  /-- `WR addr, v`. -/
  | wr (addr v : Word)
  /-- `RD addr`. -/
  | rd (addr : Word)
  /-- `WAIT`. How many of its reads come before a pending command's Engine step is no part of the line but of the
  timing that `70_reset_and_hazards.md` R230 leaves open, so the model takes it as an argument (entry 8). -/
  | wait (early : Nat)
  /-- `SETDIM h, w`. -/
  | setDim (h w : Word)
  /-- `SETROUNDS n`. -/
  | setRounds (n : Word)
  /-- `LDKEY slot, k`. -/
  | ldKey (slot : Nat) (k : Key)
  deriving DecidableEq, Repr

/-- The operands are in the range `30_encoding.md` R88, R89 give the line. They give LDKEY's slot none; it is the 7-bit
field of `20_memory.md` R54. DEDUCED (entry 15). -/
abbrev HostLine.WellFormed : HostLine → Prop
  | .command i => i.WellFormed
  | .funrot p s => planeField p ∧ -32767 ≤ s ∧ s ≤ 32767
  | .wr _ _ => True
  | .rd _ => True
  | .wait _ => True
  | .setDim _ _ => True
  | .setRounds _ => True
  | .ldKey slot _ => slot < 128

/-- The write of a command's word to CMD (`30_encoding.md` R88). -/
def commandTurn (i : Instr) : Turn := .request (.write 0x00000000 (encode i))

/-- The turns of the Host a line stands for, in their order (`30_encoding.md` R88, R89). A line that is not `WellFormed`
stands for nothing in the rules; here its operands lose the bits that do not fit their fields. DESIGN CHOICE (entry 15). -/
def HostLine.turns : HostLine → List Turn
  | .command i => [commandTurn i]
  | .funrot p s => [commandTurn (.frot p (-s))]
  | .wr addr v => [.request (.write addr v)]
  | .rd addr => [.request (.read addr)]
  | .wait early => [.wait early]
  | .setDim h w => [.request (.write 0x00000002 h), .request (.write 0x00000003 w)]
  | .setRounds n => [.request (.write 0x00000004 n)]
  | .ldKey slot k => (List.range Config.klen).map fun i =>
      .request (.write (BitVec.ofNat 32 (0x20000000 + slot * 1024 + i)) ((bitByte (k.bit i)).setWidth 32))

/-- `s` with a Host that goes through the lines of a program one after the other (`20_memory.md` R65, R69; entry 8). -/
def State.withHostProgram (s : State) (lines : List HostLine) : State :=
  { s with agenda := lines.flatMap HostLine.turns }

end Sys2Proof.Machine
end

