-- ==== Sys2Proof/Safety.lean ====
section
/-! DEFINITION. The terms claims are stated in: the invariant of the block, its active window, and running commands one
after the other. -/

namespace Sys2Proof

/-- The other direction. -/
def Dir.opposite : Dir → Dir
  | .fwd => .inv
  | .inv => .fwd

end Sys2Proof

namespace Sys2Proof.Machine

/-- What every state of a run satisfies: the parameters keep their constraints (`00_scope.md` R6), the memory keeps its
canonical form and lists elements that exist with values that fit them (`20_memory.md` R57, R60), and STATUS is one of
those `10_state.md` R22, R23 and `60_exceptions.md` R191, R192, R201 allow. -/
structure State.Inv (s : State) : Prop where
  params : s.params.Legal
  slots : 1 ≤ s.rmax ∧ s.rmax ≤ 62
  memWf : s.mem.wf = true
  memFits : ∀ cell ∈ s.mem, fitByte s.params cell.1 cell.2 = cell.2
  errcodeLegal : s.status.errcode.toNat ≤ 4
  errcodeZero : s.status.err = false ↔ s.status.errcode = 0
  doneIdle : s.status.done = true → s.status.busy = false ∧ s.status.err = false
  onlyErrclrPends : s.status.busy = true → s.status.err = true → s.pend = errclrWord

/-- The address of a cell of the active window of IMG (`10_state.md` R27). -/
abbrev State.InImgWindow (s : State) (a : Nat) : Prop :=
  ∃ c y x, c < 3 ∧ y < s.height ∧ x < s.width ∧ a = imgAddr c y x

/-- The address of a cell of the active window of plane p (`10_state.md` R27). -/
abbrev State.InPlaneWindow (s : State) (p a : Nat) : Prop :=
  ∃ y x, y < s.height ∧ x < s.width ∧ a = plnAddr p y x

/-- The address of a cell of the active window of PLN (`10_state.md` R27). -/
abbrev State.InPlnWindow (s : State) (a : Nat) : Prop := ∃ p < 24, s.InPlaneWindow p a

/-- The commands that use the image size (`60_exceptions.md` R191, row E_DIM). -/
def usesDims : Instr → Bool
  | .nop => false
  | .errclr => false
  | .decomp => true
  | .recomp => true
  | .rowp _ => true
  | .colp _ => true
  | .kupd => false
  | .kst _ => false
  | .kld _ => false
  | .kfin => false
  | .scr => true
  | .uscr => true
  | .frot _ _ => true
  | .frotk _ _ => true
  | .frota _ => true
  | .pshuf => true
  | .enc => true
  | .dec => true

/-- `match` and `mask` of every row of the opcode map (`30_encoding.md` R82, R83), as `opcode_table.json` lists them. -/
def opcodeRows : List (Word × Word) :=
  [ (0x00000000, 0xFFFFFFFF), (0x00000001, 0xFFFFFFFF), (0x00000010, 0xFFFFFFFF), (0x00000011, 0xFFFFFFFF),
    (0x00000020, 0xFFFFFEFF), (0x00000021, 0xFFFFFEFF), (0x00000022, 0xFFFFFFFF), (0x00000023, 0x0000FFFF),
    (0x00000024, 0x0000FFFF), (0x00000025, 0xFFFFFFFF), (0x00000026, 0xFFFFFFFF), (0x00000027, 0xFFFFFFFF),
    (0x00000030, 0x0000C1FF), (0x00000031, 0xFFFFC0FF), (0x00000032, 0xFFFFFEFF), (0x00000040, 0xFFFFFFFF),
    (0x00000050, 0xFFFFFFFF), (0x00000051, 0xFFFFFFFF) ]

/-- The Engine's effects of a list of commands, each on the state the one before it left. -/
def runCommands : List Instr → State → Outcome
  | [], s => .next s
  | i :: rest, s =>
    match exec i s with
    | .next t => runCommands rest t
    | .fault r => .fault r
    | .refused r => .refused r

/-- The commands a Host issues for one round of SCR (`41_pixel_permutation.md` R123). -/
def scrambleRoundCommands (r : Nat) : List Instr := [.kst r, .rowp .fwd, .colp .fwd, .kupd]

/-- The commands a Host issues for one round of USCR (`41_pixel_permutation.md` R124). -/
def unscrambleRoundCommands (r : Nat) : List Instr := [.kld r, .colp .inv, .rowp .inv]

/-- SCR by hand, for a round count (`41_pixel_permutation.md` R123). -/
def scrambleCommands (rounds : Nat) : List Instr := (List.range rounds).flatMap scrambleRoundCommands ++ [.kfin]

/-- USCR by hand, for a round count (`41_pixel_permutation.md` R124). -/
def unscrambleCommands (rounds : Nat) : List Instr := (List.range rounds).reverse.flatMap unscrambleRoundCommands

/-- Two states agree on the active window of IMG. -/
abbrev SameImgWindow (s t : State) : Prop := ∀ c y x, c < 3 → y < s.height → x < s.width → t.img c y x = s.img c y x

/-- Two states agree on the active window of PLN. -/
abbrev SamePlnWindow (s t : State) : Prop := ∀ p y x, p < 24 → y < s.height → x < s.width → t.pln p y x = s.pln p y x

end Sys2Proof.Machine
end

