-- ==== Sys2Proof/Certificates/Slice0/Obligations.lean ====
section
/-! DEFINITION. The statements for the provers. `s.Inv` (Safety) is the invariant every step keeps; a statement that
has it as a premise does so to rule out states no run reaches. -/

open Sys2Proof Sys2Proof.Machine

/-! ### The command word -/

/-- The example words of `30_encoding.md` R88, and one of each further family, decode to what they stand for. -/
def Obligations.SpecWordsDecode : Prop :=
  decode 0xFFFD0A30 = .ok (.frot 5 (-3)) ∧ decode 0x00000120 = .ok (.rowp .inv) ∧ decode 0x00020023 = .ok (.kst 2) ∧
  decode 0x00002F31 = .ok (.frotk 23 .inv) ∧ decode 0x00000050 = .ok .enc ∧ decode 0x00000001 = .ok .errclr ∧
  decode 0x00000010 = .ok .decomp ∧ decode 0x00000040 = .ok .pshuf

/-- Decoding the word of a well-formed command gives the command back, whatever its operands. -/
def Obligations.DecodeOfEncode : Prop := ∀ i : Instr, i.WellFormed → decode (encode i) = .ok i

/-- A word that decodes is the word of the command it decodes to, and that command is well formed: no word but the
encoder's stands for a command. -/
def Obligations.EncodeOfDecode : Prop := ∀ (w : Word) (i : Instr), decode w = .ok i → i.WellFormed ∧ encode i = w

/-- `30_encoding.md` R85, R86 and `60_exceptions.md` R193: a word is an instance of at most one row; it is legal exactly
when it is an instance of one; and the Engine step on an illegal word raises E_ILLCMD, before any other check. -/
def Obligations.IllegalWordsRaiseIllCmd : Prop :=
  (∀ (w : Word), ∀ row ∈ opcodeRows, ∀ row' ∈ opcodeRows,
    w &&& row.2 = row.1 → w &&& row'.2 = row'.1 → row = row') ∧
  (∀ w : Word, (∃ i, decode w = .ok i) ↔ ∃ row ∈ opcodeRows, w &&& row.2 = row.1) ∧
  (∀ s : State, s.agenda = [] → s.status.busy = true → (∀ row ∈ opcodeRows, s.pend &&& row.2 ≠ row.1) →
    step s = .next { s with status := { s.status with busy := false, err := true, errcode := 1 } })

/-! ### The step -/

/-- When BUSY is 1, it is the Engine's turn and PEND decodes to a command, the step is that command's effect. -/
def Obligations.StepRunsDecodedCommand : Prop :=
  ∀ (s : State) (i : Instr), s.status.busy = true → decode s.pend = .ok i →
    (s.agenda = [] → step s = exec i s) ∧
    (∀ rest, s.agenda = .engine :: rest → step s = exec i { s with agenda := rest })

/-- From an idle block with no error, a CMD write of a word that decodes is presented, accepted and executed in three
steps, and nothing but the port and STATUS and PEND is touched on the way. That these are three steps, in this order, is
the model's choice (entries 7, 8, 12); what acceptance does to PEND and STATUS is `10_state.md` R22's. -/
def Obligations.CommandWordReachesTheEngine : Prop :=
  ∀ (s : State) (w : Word) (i : Instr), s.agenda = [.request (.write 0 w)] → s.port = none → s.status.busy = false →
    s.status.err = false → decode w = .ok i →
    ∃ t u : State, step s = .next t ∧ step t = .next u ∧ step u = exec i u ∧
      u = { s with agenda := [], port := none, response := some (.write false), pend := w,
                   status := { s.status with busy := true, done := false } }

/-- `60_exceptions.md` R192: an Engine step always exists and ends with BUSY 0; it completes with DONE, or it raises an
error, and then the state differs from the one before in STATUS alone, with DONE 0. -/
def Obligations.EngineStepCompletesOrAbortsPrecisely : Prop :=
  ∀ s : State, s.Inv → s.agenda = [] → s.status.busy = true →
    ∃ t, step s = .next t ∧ t.status.busy = false ∧
      ((t.status.done = true ∧ t.status.err = false ∧ t.status.errcode = 0) ∨
        ∃ e : ErrCode, t = { s with status := { busy := false, done := false, err := true, errcode := e.code } })

/-- Every step of the machine, whichever agent moves, keeps the invariant. -/
def Obligations.StepKeepsInv : Prop := ∀ s t : State, s.Inv → step s = .next t → t.Inv

/-- The state after reset has the invariant, whatever canonical contents its uncleared storage holds; so has
State.reset, whose contents and sizes are the model's choice (entries 1, 2, 3). -/
def Obligations.ResetHasInv : Prop :=
  State.reset.Inv ∧
  ∀ (p : Config.Params) (c : Storage), p.Legal → 1 ≤ c.rks.length → c.rks.length ≤ 62 → c.mem.wf = true →
    (∀ cell ∈ c.mem, fitByte p cell.1 cell.2 = cell.2) → (State.powerUp p c).Inv

/-! ### Errors -/

/-- `60_exceptions.md` R191, R194, R195, R196: which command raises which error, and exactly when. -/
def Obligations.EachCommandRaisesExactlyItsErrors : Prop :=
  ∀ (i : Instr) (s : State), s.Inv →
    (exec i s = .next (s.raise .dim) ↔ usesDims i = true ∧ ¬ s.DimsLegal) ∧
    (exec i s = .next (s.raise .plane) ↔
      s.DimsLegal ∧ ((∃ p steps, i = .frot p steps ∧ 24 ≤ p) ∨ ∃ p dir, i = .frotk p dir ∧ 24 ≤ p)) ∧
    (exec i s = .next (s.raise .rounds) ↔
      (s.DimsLegal ∧ ¬ s.RoundsLegal ∧ (i = .scr ∨ i = .uscr ∨ i = .enc ∨ i = .dec)) ∨
      ∃ r, (i = .kst r ∨ i = .kld r) ∧ s.rmax ≤ r) ∧
    exec i s ≠ .next (s.raise .illCmd)

/-- `60_exceptions.md` R200: a command that failed fails again with the same code when it is issued again with the
state unchanged, whatever STATUS and PEND are by then. -/
def Obligations.FailedCommandFailsAgain : Prop :=
  ∀ (i : Instr) (s : State) (e : ErrCode) (st : Status) (w : Word), s.Inv → exec i s = .next (s.raise e) →
    exec i { s with status := st, pend := w } = .next (State.raise { s with status := st, pend := w } e)

/-- ERR and ERRCODE, once set, change only by the ERRCLR command or a reset. -/
def Obligations.ErrorStaysUntilErrclrOrReset : Prop :=
  ∀ s t : State, s.Inv → step s = .next t → s.status.err = true →
    (t.status.err = true ∧ t.status.errcode = s.status.errcode) ∨
    (s.fetch = some errclrWord ∧ t.status.err = false ∧ t.status.errcode = 0) ∨
    ∃ rest, s.agenda = .reset :: rest

/-! ### The host port -/

/-- `10_state.md` R22: what a write of CMD does with BUSY 0, that it waits with BUSY 1, and that CMD reads 0. -/
def Obligations.CmdWriteAcceptsDiscardsOrWaits : Prop :=
  ∀ s : State, s.agenda = [] →
    (∀ w, s.port = some (.write 0 w) → s.status.busy = false → s.status.err = true → w ≠ 0x00000001 →
      step s = .next { s with port := none, response := some (.write false) }) ∧
    (∀ w, s.port = some (.write 0 w) → s.status.busy = false → (s.status.err = false ∨ w = 0x00000001) →
      step s = .next { s with port := none, response := some (.write false), pend := w,
                              status := { s.status with busy := true, done := false } }) ∧
    (∀ w, s.port = some (.write 0 w) → s.status.busy = true →
      ∃ t, step s = .next t ∧ t.status.busy = false ∧ t.port = s.port ∧ t.agenda = []) ∧
    (s.port = some (.read 0) → s.status.busy = false →
      step s = .next { s with port := none, response := some (.read 0 false) })

/-- `20_memory.md` R58 and `60_exceptions.md` R203: a transaction to an unmapped address completes with `h_err = 1`, with
some read data for a read, and changes nothing of the block (`errReads` is the model's own counter of such reads); with
BUSY 1 only a read of the CSR space completes, and it completes so too. -/
def Obligations.UnmappedAccessGetsErrorResponse : Prop :=
  ∀ (s : State) (a : Word), s.element a = none →
    (s.agenda = [] → s.status.busy = false → s.port = some (.read a) →
      ∃ d, step s = .next { s with port := none, response := some (.read d true), errReads := s.errReads + 1 }) ∧
    (∀ w, s.agenda = [] → s.status.busy = false → s.port = some (.write a w) →
      step s = .next { s with port := none, response := some (.write true) }) ∧
    (∀ rest, s.agenda = .grant :: rest → s.status.busy = true → a.toNat < 0x20000000 → s.port = some (.read a) →
      ∃ d, step s = .next
        { s with agenda := rest, port := none, response := some (.read d true), errReads := s.errReads + 1 })

/-- `20_memory.md` R59: while BUSY is 1 a read of the CSR space completes at once and every other transaction is held;
such a held transaction completes, against the state after the Engine step. -/
def Obligations.TransactionsAreHeldWhileBusy : Prop :=
  ∀ (s : State) (tr : Transaction), s.status.busy = true → s.port = some tr →
    (∀ rest a, s.agenda = .grant :: rest → tr = .read a → a.toNat < 0x20000000 →
      step s = .next (State.transact { s with agenda := rest } tr) ∧
      (∀ n ≤ 6, a.toNat = n → step s = .next
        { s with agenda := rest, port := none, response := some (.read (s.readCsr n) false) })) ∧
    (∀ rest, s.agenda = .grant :: rest → (∀ a, tr = .read a → 0x20000000 ≤ a.toNat) →
      step s = .next { s with agenda := rest }) ∧
    (s.agenda = [] → (∀ a, tr = .read a → 0x20000000 ≤ a.toNat) →
      ∃ t u, step s = .next t ∧ t.status.busy = false ∧ t.port = some tr ∧ step t = .next u ∧ u = t.transact tr ∧
        u.port = none)

/-- `20_memory.md` R55, R56, R57: which addresses are mapped, and to which element. -/
def Obligations.AddressMapIsTheSpecs : Prop :=
  ∀ s : State, s.Inv →
    (∀ a : Word, a.toNat < 0x20000000 → s.element a = if a.toNat ≤ 6 then some (.csr a.toNat) else none) ∧
    (∀ slot i, slot < 4 + 2 * s.rmax → i < 128 →
      s.element (BitVec.ofNat 32 (0x20000000 + slot * 1024 + i)) = some (.keyBit slot i)) ∧
    (∀ c y x, c ≤ 2 → y < s.params.hmax → x < s.params.wmax →
      s.element (BitVec.ofNat 32 (0x40000000 + c * 2 ^ 24 + y * 2 ^ 12 + x)) = some (.img c y x)) ∧
    (∀ p y x, p ≤ 23 → y < s.params.hmax → x < s.params.wmax →
      s.element (BitVec.ofNat 32 (0x60000000 + p * 2 ^ 24 + y * 2 ^ 12 + x)) = some (.pln p y x)) ∧
    (∀ (a : Word) (e : Element), s.element a = some e →
      (a.toNat ≤ 6 ∧ e = .csr a.toNat) ∨
      (∃ slot i, slot < 4 + 2 * s.rmax ∧ i < 128 ∧ a.toNat = 0x20000000 + slot * 1024 + i ∧ e = .keyBit slot i) ∨
      (∃ c y x, c ≤ 2 ∧ y < s.params.hmax ∧ x < s.params.wmax ∧
        a.toNat = 0x40000000 + c * 2 ^ 24 + y * 2 ^ 12 + x ∧ e = .img c y x) ∨
      ∃ p y x, p ≤ 23 ∧ y < s.params.hmax ∧ x < s.params.wmax ∧
        a.toNat = 0x60000000 + p * 2 ^ 24 + y * 2 ^ 12 + x ∧ e = .pln p y x) ∧
    (s.key 0 = s.k1 ∧ s.key 1 = s.k2 ∧ s.key 2 = s.fk1 ∧ s.key 3 = s.fk2 ∧
      ∀ r, s.key (4 + 2 * r) = (s.pair r).k1 ∧ s.key (5 + 2 * r) = (s.pair r).k2)

/-- `20_memory.md` R60: a write keeps the low bits that fit the element, a read zero-extends them; and a write (of
anything but CMD) changes what no other element reads as. With BUSY 0 the outstanding transaction on a mapped address
completes, by the Host's turn or with no turn left: a read answers the element's value without error and changes nothing
else (R52), a write answers without error and leaves STATUS and PEND alone (R53). -/
def Obligations.PortWriteThenRead : Prop :=
  ∀ (s : State) (a w : Word) (e : Element), s.Inv → s.element a = some e →
    (∀ tr, tr = .read a ∨ tr = .write a w → s.port = some tr → s.status.busy = false →
      (s.agenda = [] → step s = .next (s.transact tr)) ∧
      ∀ rest, s.agenda = .grant :: rest → step s = .next { s.transact tr with agenda := rest }) ∧
    s.transact (.read a) = { s with port := none, response := some (.read (s.readElement e) false) } ∧
    (∀ c y x, e = .img c y x → (s.readElement e).toNat = (s.img c y x).toNat) ∧
    (∀ p y x, e = .pln p y x → (s.readElement e).toNat = (s.pln p y x).toNat) ∧
    (∀ slot i, e = .keyBit slot i → (s.readElement e).toNat = ((s.key slot).bit i).toNat) ∧
    (e ≠ .csr 0 →
      (s.transact (.write a w)).port = none ∧ (s.transact (.write a w)).response = some (.write false) ∧
      (s.transact (.write a w)).status = s.status ∧ (s.transact (.write a w)).pend = s.pend ∧
      (∀ c y x, e = .img c y x → (s.transact (.write a w)).readElement e = w &&& 0xFF) ∧
      (∀ p y x, e = .pln p y x → (s.transact (.write a w)).readElement e = w &&& 1) ∧
      (∀ slot i, e = .keyBit slot i → (s.transact (.write a w)).readElement e = w &&& 1) ∧
      (e = .csr 2 ∨ e = .csr 3 → (s.transact (.write a w)).readElement e = w &&& 0x1FFF) ∧
      (e = .csr 4 → (s.transact (.write a w)).readElement e = w &&& 0x7F) ∧
      (e = .csr 1 ∨ e = .csr 5 ∨ e = .csr 6 → (s.transact (.write a w)).readElement e = s.readElement e) ∧
      (∀ b e', s.element b = some e' → e' ≠ e → (s.transact (.write a w)).readElement e' = s.readElement e'))

/-- `10_state.md` R29 and the field places of R21: what the CSRs read, and that a write of a read-only one
changes nothing and gives no error. -/
def Obligations.CsrsReadTheirFields : Prop :=
  ∀ s : State, s.Inv →
    (s.readCsr 1).toNat = s.status.busy.toNat + 2 * s.status.done.toNat + 4 * s.status.err.toNat
      + 256 * s.status.errcode.toNat ∧
    (s.readCsr 2).toNat = s.height ∧ (s.readCsr 3).toNat = s.width ∧ (s.readCsr 4).toNat = s.roundCount ∧
    (s.readCsr 5).toNat = 128 + s.rmax * 2 ^ 16 ∧ (s.readCsr 6).toNat = s.params.hmax + s.params.wmax * 2 ^ 16 ∧
    ∀ n w, n = 1 ∨ n = 5 ∨ n = 6 →
      s.transact (.write (BitVec.ofNat 32 n) w) = { s with port := none, response := some (.write false) }

/-! ### Reset -/

/-- `10_state.md` R37: the values after reset, for every size of the block and every content of the storage that reset
does not clear. -/
def Obligations.ResetValues : Prop :=
  ∀ (p : Config.Params) (c : Storage),
    (State.powerUp p c).status = { busy := false, done := false, err := false, errcode := 0 } ∧
    (State.powerUp p c).status.word = 0 ∧
    (State.powerUp p c).dimH = 0 ∧ (State.powerUp p c).dimW = 0 ∧ (State.powerUp p c).rounds = 3 ∧
    ¬ (State.powerUp p c).DimsLegal ∧
    (State.powerUp p c).k1 = c.k1 ∧ (State.powerUp p c).k2 = c.k2 ∧ (State.powerUp p c).fk1 = c.fk1 ∧
    (State.powerUp p c).fk2 = c.fk2 ∧ (State.powerUp p c).rks = c.rks ∧ (State.powerUp p c).mem = c.mem

/-- `70_reset_and_hazards.md` R220: a reset edge, in any state. A transaction in progress is dropped without effect: the
next state is the same whatever the port held. -/
def Obligations.ResetEdgeDropsAndClears : Prop :=
  ∀ (s : State) (rest : List Turn), s.agenda = .reset :: rest →
    ∃ t, step s = .next t ∧ t.status = { busy := false, done := false, err := false, errcode := 0 } ∧
      t.dimH = 0 ∧ t.dimW = 0 ∧ t.rounds = 3 ∧ t.port = none ∧ t.agenda = rest ∧ t.params = s.params ∧
      t.rmax = s.rmax ∧ ∀ held, step { s with port := held } = .next t

/-- A reset abandons the pending command without an error (`70_reset_and_hazards.md` R221), and what that command only
reads is unchanged. Which elements those are the model deduces from R221 and the table of `10_state.md` R36, against the
"unspecified" of R37 and R220 (entry 5). -/
def Obligations.AbandonedCommandKeepsWhatItOnlyReads : Prop :=
  ∀ (s : State) (rest : List Turn) (i : Instr), s.Inv → s.agenda = .reset :: rest → s.status.busy = true →
    decode s.pend = .ok i →
    ∃ t, step s = .next t ∧ t.status = { busy := false, done := false, err := false, errcode := 0 } ∧
      (i = .decomp → s.DimsLegal → SameImgWindow s t) ∧
      (i = .recomp → s.DimsLegal → SamePlnWindow s t) ∧
      (∀ dir, i = .rowp dir → t.k1 = s.k1) ∧
      (∀ dir, i = .colp dir → t.k2 = s.k2) ∧
      (∀ r, i = .kst r → t.k1 = s.k1 ∧ t.k2 = s.k2) ∧
      (∀ r, i = .kld r → r < s.rmax → t.pair r = s.pair r) ∧
      (i = .kfin → t.k1 = s.k1 ∧ t.k2 = s.k2) ∧
      (i = .uscr ∨ i = .dec → ∀ r, r < s.roundCount → r < s.rmax → t.pair r = s.pair r) ∧
      ((∃ p dir, i = .frotk p dir) ∨ (∃ dir, i = .frota dir) ∨ i = .dec → t.fk1 = s.fk1 ∧ t.fk2 = s.fk2)

/-! ### Key functions -/

/-- `40_key_functions.md` R100, R101, R102: `getBits`, `rotl1` and `win4`, bit by bit. -/
def Obligations.WindowFunctionsWrapAround : Prop :=
  (∀ (k : BitString) (start n : Nat), k ≠ [] → (getBits k start n).length = n ∧
    ∀ j < n, bitAt (getBits k start n) j = bitAt k ((start + j) % k.length)) ∧
  getBits [true, false, true, false] 3 4 = [false, true, false, true] ∧
  (∀ (b : Bool) (k : BitString), rotl1 (b :: k) = k ++ [b]) ∧
  (∀ (k : BitString), k ≠ [] → ∀ i < k.length, bitAt (rotl1 k) i = bitAt k ((i + 1) % k.length)) ∧
  (∀ (k : BitString) (off : Nat), k ≠ [] → win4 k off ≤ 15 ∧
    win4 k off = 8 * (bitAt k (off % k.length)).toNat + 4 * (bitAt k ((off + 1) % k.length)).toNat
      + 2 * (bitAt k ((off + 2) % k.length)).toNat + (bitAt k ((off + 3) % k.length)).toNat)

/-- `40_key_functions.md` R103: the length of a reduced key and each of its bits. -/
def Obligations.ReduceDropsEveryFourthBit : Prop :=
  ∀ k : BitString, (reduce k).length = k.length - k.length / 4 ∧
    ∀ m < (reduce k).length, bitAt (reduce k) m = bitAt k (m + m / 3)

/-- `40_key_functions.md` R104: every bit of `update1`, from the shifted key alone. -/
def Obligations.UpdateOneBitByBit : Prop :=
  ∀ (k : BitString) (half : Nat), 1 ≤ half → k.length = 2 * half →
    (update1 k).length = 2 * half ∧
    (∀ i < half, bitAt (update1 k) i
      = (bitAt k ((i + 1) % (2 * half)) ^^ bitAt k ((i + half + 1) % (2 * half)))) ∧
    (∀ i, half ≤ i → i + 1 < 2 * half → bitAt (update1 k) i = bitAt k (i + 1)) ∧
    bitAt (update1 k) (2 * half - 1) = !bitAt k 0

/-- The fixed points of `update1` that `40_key_functions.md` R111 (b) lists are fixed points, and there are no others. -/
def Obligations.UpdateOneFixedPoints : Prop :=
  ∀ (k : BitString) (half : Nat), 1 ≤ half → k.length = 2 * half →
    (update1 k = k ↔
      k = List.replicate half true ++ List.replicate half false ∨
      (half % 2 = 0 ∧ k = (List.replicate (half / 2) [false, true]).flatten ++ List.replicate half true))

/-- `update1` is a bijection on the bit-strings of each even length, with the inverse of `40_key_functions.md` R111 (c). -/
def Obligations.UpdateOneIsBijective : Prop :=
  (∀ (u : BitString) (half : Nat), 1 ≤ half → u.length = 2 * half → ∃! k, k.length = 2 * half ∧ update1 k = u) ∧
  (∀ (k : BitString) (half : Nat), 1 ≤ half → k.length = 2 * half →
    ∀ t s : Nat → Bool,
      (∀ i, t i = if i + 1 = 2 * half then !bitAt (update1 k) i else bitAt (update1 k) i) →
      (∀ i, s i = if i < half then t i ^^ t (i + half) else t i) →
      ∀ i < 2 * half, bitAt k i = s ((i + (2 * half - 1)) % (2 * half)))

/-- `41_pixel_permutation.md` R120: a shift, its range, and its repetition after |k|/4 rows or columns. -/
def Obligations.ShiftsAreSmallAndRepeat : Prop :=
  ∀ (k : BitString) (i n : Nat), k ≠ [] → 1 ≤ n →
    rowShift k i n = win4 k (4 * i % k.length) % n ∧ colShift k i n = win4 k (4 * i % k.length) % n ∧
    rowShift k i n ≤ min 15 (n - 1) ∧ colShift k i n ≤ min 15 (n - 1) ∧
    (k.length % 4 = 0 → rowShift k (i + k.length / 4) n = rowShift k i n ∧
      colShift k (i + k.length / 4) n = colShift k i n)

/-! ### System and key-register commands -/

/-- `45_pipeline_system.md` R175: NOP completes, changes STATUS only, is discarded while ERR is 1, and after reset leaves
STATUS = 0x00000002. -/
def Obligations.NopCompletes : Prop :=
  decode 0x00000000 = .ok .nop ∧
  (∀ s : State, exec .nop s = .next { s with status := { s.status with busy := false, done := true } }) ∧
  (∀ s : State, s.status.err = true → s.writeCmd 0x00000000 = s) ∧
  ∀ p c, ∃ t, step ((State.powerUp p c).accept 0x00000000) = .next t ∧ t.status.word = 0x00000002

/-- `45_pipeline_system.md` R176: ERRCLR clears ERR and ERRCODE, sets DONE, changes nothing else, and is the only command
accepted while ERR is 1. -/
def Obligations.ErrclrClearsTheError : Prop :=
  decode 0x00000001 = .ok .errclr ∧
  (∀ s : State, exec .errclr s = .next { s with status := { busy := false, done := true, err := false, errcode := 0 } }) ∧
  ∀ (s : State) (w : Word), s.status.err = true → (s.writeCmd w ≠ s → w = 0x00000001) ∧
    s.writeCmd 0x00000001 = { s with pend := 0x00000001, status := { s.status with busy := true, done := false } }

/-- `40_key_functions.md` R107: KUPD replaces K1 and K2 by `update1` of each, whatever the dimensions. -/
def Obligations.KupdUpdatesBothKeys : Prop :=
  decode 0x00000022 = .ok .kupd ∧
  ∀ s : State, ∃ t, exec .kupd s = .next t ∧
    t = { s with k1 := t.k1, k2 := t.k2, status := { s.status with busy := false, done := true } } ∧
    t.k1.bits = update1 s.k1.bits ∧ t.k2.bits = update1 s.k2.bits

/-- `40_key_functions.md` R108: KST r copies K1 and K2 into slot r and no other slot, or raises E_ROUNDS. -/
def Obligations.KstRecordsThePair : Prop :=
  (∀ r < 65536, decode (BitVec.ofNat 32 (r * 65536 + 0x23)) = .ok (.kst r)) ∧
  ∀ (s : State) (r : Nat),
    (s.rmax ≤ r → exec (.kst r) s = .next (s.raise .rounds)) ∧
    (r < s.rmax → ∃ t, exec (.kst r) s = .next t ∧
      t = { s with rks := t.rks, status := { s.status with busy := false, done := true } } ∧
      t.rmax = s.rmax ∧ t.pair r = { k1 := s.k1, k2 := s.k2 } ∧ ∀ q, q ≠ r → t.pair q = s.pair q)

/-- `40_key_functions.md` R109: KLD r copies slot r into K1 and K2, or raises E_ROUNDS. -/
def Obligations.KldLoadsThePair : Prop :=
  (∀ r < 65536, decode (BitVec.ofNat 32 (r * 65536 + 0x24)) = .ok (.kld r)) ∧
  ∀ (s : State) (r : Nat),
    (s.rmax ≤ r → exec (.kld r) s = .next (s.raise .rounds)) ∧
    (∀ h : r < s.rks.length, exec (.kld r) s = .next
      { s with k1 := s.rks[r].k1, k2 := s.rks[r].k2, status := { s.status with busy := false, done := true } })

/-- `40_key_functions.md` R110: KFIN copies K1 and K2 into FK1 and FK2. -/
def Obligations.KfinCopiesTheFinalPair : Prop :=
  decode 0x00000025 = .ok .kfin ∧
  ∀ s : State, exec .kfin s
    = .next { s with fk1 := s.k1, fk2 := s.k2, status := { s.status with busy := false, done := true } }

/-! ### The pixel_permutation_engine -/

/-- `41_pixel_permutation.md` R121: ROWP moves the sample at column x of row i to column `(x + s) mod W` (F) or
`(x - s) mod W` (I), s the row shift of K1, in all three channels; nothing else changes. -/
def Obligations.RowpShiftsRows : Prop :=
  decode 0x00000020 = .ok (.rowp .fwd) ∧ decode 0x00000120 = .ok (.rowp .inv) ∧
  ∀ (s : State) (dir : Dir), s.Inv →
    (¬ s.DimsLegal → exec (.rowp dir) s = .next (s.raise .dim)) ∧
    (s.DimsLegal → ∃ t, exec (.rowp dir) s = .next t ∧
      t = { s with mem := t.mem, status := { s.status with busy := false, done := true } } ∧
      (∀ c i x, c < 3 → i < s.height → x < s.width →
        (dir = .fwd → t.img c i ((x + rowShift s.k1.bits i s.width) % s.width) = s.img c i x) ∧
        (dir = .inv → t.img c i (wrap ((x : Int) - rowShift s.k1.bits i s.width) s.width) = s.img c i x)) ∧
      ∀ a, ¬ s.InImgWindow a → t.mem.read a = s.mem.read a)

/-- `41_pixel_permutation.md` R122: COLP moves the sample at row y of column j to row `(y + s) mod H` (F) or
`(y - s) mod H` (I), s the column shift of K2, in all three channels; nothing else changes. -/
def Obligations.ColpShiftsColumns : Prop :=
  decode 0x00000021 = .ok (.colp .fwd) ∧ decode 0x00000121 = .ok (.colp .inv) ∧
  ∀ (s : State) (dir : Dir), s.Inv →
    (¬ s.DimsLegal → exec (.colp dir) s = .next (s.raise .dim)) ∧
    (s.DimsLegal → ∃ t, exec (.colp dir) s = .next t ∧
      t = { s with mem := t.mem, status := { s.status with busy := false, done := true } } ∧
      (∀ c j y, c < 3 → j < s.width → y < s.height →
        (dir = .fwd → t.img c ((y + colShift s.k2.bits j s.height) % s.height) j = s.img c y j) ∧
        (dir = .inv → t.img c (wrap ((y : Int) - colShift s.k2.bits j s.height) s.height) j = s.img c y j)) ∧
      ∀ a, ¬ s.InImgWindow a → t.mem.read a = s.mem.read a)

/-- `41_pixel_permutation.md` R123: SCR has the effect of its rounds of KST, ROWP F, COLP F, KUPD and a last KFIN; what
it leaves in every key register; its two checks. -/
def Obligations.ScrIsItsRounds : Prop :=
  decode 0x00000026 = .ok .scr ∧
  ∀ s : State,
    (¬ s.DimsLegal → exec .scr s = .next (s.raise .dim)) ∧
    (s.DimsLegal → ¬ s.RoundsLegal → exec .scr s = .next (s.raise .rounds)) ∧
    (s.DimsLegal → s.RoundsLegal → exec .scr s = runCommands (scrambleCommands s.roundCount) s ∧
      ∃ t, exec .scr s = .next t ∧
        t = { s with mem := t.mem, k1 := t.k1, k2 := t.k2, fk1 := t.k1, fk2 := t.k2, rks := t.rks,
                     status := { s.status with busy := false, done := true } } ∧
        t.rmax = s.rmax ∧
        (∀ r < s.roundCount, t.pair r = { k1 := Key.update^[r] s.k1, k2 := Key.update^[r] s.k2 }) ∧
        (∀ r, s.roundCount ≤ r → t.pair r = s.pair r) ∧
        t.k1 = Key.update^[s.roundCount] s.k1 ∧ t.k2 = Key.update^[s.roundCount] s.k2 ∧
        ∀ a, ¬ s.InImgWindow a → t.mem.read a = s.mem.read a)

/-- `41_pixel_permutation.md` R124: USCR has the effect of its rounds of KLD, COLP I, ROWP I in falling round order; what
it leaves in K1 and K2; its two checks. -/
def Obligations.UscrIsItsRounds : Prop :=
  decode 0x00000027 = .ok .uscr ∧
  ∀ s : State,
    (¬ s.DimsLegal → exec .uscr s = .next (s.raise .dim)) ∧
    (s.DimsLegal → ¬ s.RoundsLegal → exec .uscr s = .next (s.raise .rounds)) ∧
    (s.DimsLegal → s.RoundsLegal → exec .uscr s = runCommands (unscrambleCommands s.roundCount) s ∧
      ∃ t, exec .uscr s = .next t ∧
        t = { s with mem := t.mem, k1 := (s.pair 0).k1, k2 := (s.pair 0).k2,
                     status := { s.status with busy := false, done := true } } ∧
        ∀ a, ¬ s.InImgWindow a → t.mem.read a = s.mem.read a)

/-- ROWP I undoes ROWP F and the other way round, and so for COLP (`41_pixel_permutation.md` R125 (a), (b)). -/
def Obligations.PassesInvert : Prop :=
  ∀ (s : State) (dir : Dir), s.Inv → s.DimsLegal →
    (∃ t u, exec (.rowp dir) s = .next t ∧ exec (.rowp dir.opposite) t = .next u ∧ u.mem = s.mem) ∧
    ∃ t u, exec (.colp dir) s = .next t ∧ exec (.colp dir.opposite) t = .next u ∧ u.mem = s.mem

/-- USCR after SCR restores the image and the initial key pair (`41_pixel_permutation.md` R125 (c)). -/
def Obligations.UscrInvertsScr : Prop :=
  ∀ s : State, s.Inv → s.DimsLegal → s.RoundsLegal →
    ∃ t u, exec .scr s = .next t ∧ exec .uscr t = .next u ∧ u.mem = s.mem ∧ u.k1 = s.k1 ∧ u.k2 = s.k2

/-- ROWP, COLP, SCR and USCR permute the pixel positions of the active window, the same way in the three channels, so no
sample's value changes and no pixel is split (`41_pixel_permutation.md` R125 (e)); ROWP and COLP do so whatever ROUNDS
is. -/
def Obligations.ScramblingPermutesPixels : Prop :=
  ∀ (s : State) (i : Instr), s.Inv → s.DimsLegal → (i = .scr ∨ i = .uscr → s.RoundsLegal) →
    ((∃ dir, i = .rowp dir) ∨ (∃ dir, i = .colp dir) ∨ i = .scr ∨ i = .uscr) →
    ∃ t, exec i s = .next t ∧ ∃ place : Equiv.Perm (Fin s.height × Fin s.width),
      ∀ c, c < 3 → ∀ q, t.img c q.1 q.2 = s.img c (place q).1 (place q).2

/-! ### The bitplane_decomposer unit -/

/-- `42_bitplane_codec.md` R141: DECOMP writes bit b of channel c's samples to plane 8c + b; nothing else changes. -/
def Obligations.DecompSplitsSamples : Prop :=
  decode 0x00000010 = .ok .decomp ∧
  ∀ s : State, s.Inv →
    (¬ s.DimsLegal → exec .decomp s = .next (s.raise .dim)) ∧
    (s.DimsLegal → ∃ t, exec .decomp s = .next t ∧
      t = { s with mem := t.mem, status := { s.status with busy := false, done := true } } ∧
      (∀ c b y x, c < 3 → b < 8 → y < s.height → x < s.width →
        (t.pln (8 * c + b) y x).toNat = (s.img c y x).toNat / 2 ^ b % 2) ∧
      ∀ a, ¬ s.InPlnWindow a → t.mem.read a = s.mem.read a)

/-- `42_bitplane_codec.md` R142: RECOMP makes each sample the sum of its eight plane bits, bit b of weight 2^b; nothing
else changes. -/
def Obligations.RecompJoinsPlanes : Prop :=
  decode 0x00000011 = .ok .recomp ∧
  ∀ s : State, s.Inv →
    (¬ s.DimsLegal → exec .recomp s = .next (s.raise .dim)) ∧
    (s.DimsLegal → ∃ t, exec .recomp s = .next t ∧
      t = { s with mem := t.mem, status := { s.status with busy := false, done := true } } ∧
      (∀ c y x, c < 3 → y < s.height → x < s.width →
        (t.img c y x).toNat = ∑ b ∈ Finset.range 8, (s.pln (8 * c + b) y x).toNat * 2 ^ b) ∧
      ∀ a, ¬ s.InImgWindow a → t.mem.read a = s.mem.read a)

/-- `42_bitplane_codec.md` R143: RECOMP after DECOMP leaves IMG as it was, DECOMP after RECOMP leaves PLN as it was, and
with PSHUF between, every sample is bit-reversed. -/
def Obligations.CodecRoundTrips : Prop :=
  ∀ s : State, s.Inv → s.DimsLegal →
    (∃ t, runCommands [.decomp, .recomp] s = .next t ∧ SameImgWindow s t) ∧
    (∃ t, runCommands [.recomp, .decomp] s = .next t ∧ SamePlnWindow s t) ∧
    ∃ t, runCommands [.decomp, .pshuf, .recomp] s = .next t ∧
      ∀ c y x, c < 3 → y < s.height → x < s.width →
        ∀ b < 8, (t.img c y x).getLsbD (7 - b) = (s.img c y x).getLsbD b

/-! ### The bitplane_rotator -/

/-- `43_bitplane_rotator.md` R150: the ring, cell by cell, its length, and that it names every border cell once. -/
def Obligations.RingIsTheBorderClockwise : Prop :=
  ∀ h w : Nat, 2 ≤ h → 2 ≤ w →
    (ring h w).length = 2 * (h + w) - 4 ∧ (ring h w).Nodup ∧
    (∀ y x, (y, x) ∈ ring h w ↔ y < h ∧ x < w ∧ (y = 0 ∨ y = h - 1 ∨ x = 0 ∨ x = w - 1)) ∧
    (∀ k < w, (ring h w)[k]? = some (0, k)) ∧
    (∀ k < h - 2, (ring h w)[w + k]? = some (k + 1, w - 1)) ∧
    (∀ k < w, (ring h w)[w + (h - 2) + k]? = some (h - 1, w - 1 - k)) ∧
    (∀ k < h - 2, (ring h w)[w + (h - 2) + w + k]? = some (h - 2 - k, 0))

/-- `43_bitplane_rotator.md` R151: `frot` sends ring position k to `(k + steps) mod n`, keeps every cell off the ring, and
keeps a plane with H < 2 or W < 2. -/
def Obligations.FrotMovesTheRing : Prop :=
  ∀ (g : Nat → Nat → Bool) (h w : Nat) (steps : Int),
    (h < 2 ∨ w < 2 → ∀ y x, frot g h w steps y x = g y x) ∧
    (2 ≤ h → 2 ≤ w →
      (∀ k y x y' x', k < 2 * (h + w) - 4 → (ring h w)[k]? = some (y, x) →
        (ring h w)[wrap ((k : Int) + steps) (2 * (h + w) - 4)]? = some (y', x') → frot g h w steps y' x' = g y x) ∧
      ∀ y x, (y, x) ∉ ring h w → frot g h w steps y x = g y x)

/-- `43_bitplane_rotator.md` R152: rotations invert, add, repeat with the ring length, keep the interior and the number
of 1 bits; with H = 2 or W = 2 every cell is on the border. -/
def Obligations.FrotLaws : Prop :=
  ∀ (g : Nat → Nat → Bool) (h w : Nat) (s t : Int), 1 ≤ h → 1 ≤ w →
    (∀ y x, frot (frot g h w s) h w (-s) y x = g y x) ∧
    (∀ y x, frot (frot g h w s) h w t y x = frot g h w (s + t) y x) ∧
    (∀ m : Int, s = m * (2 * ((h : Int) + w) - 4) → ∀ y x, frot g h w s y x = g y x) ∧
    (∀ y x, 1 ≤ y → y + 1 < h → 1 ≤ x → x + 1 < w → frot g h w s y x = g y x) ∧
    (∑ y ∈ Finset.range h, ∑ x ∈ Finset.range w, (frot g h w s y x).toNat
      = ∑ y ∈ Finset.range h, ∑ x ∈ Finset.range w, (g y x).toNat) ∧
    (2 ≤ h → 2 ≤ w → h = 2 ∨ w = 2 → ∀ y x, y < h → x < w → (y, x) ∈ ring h w)

/-- `43_bitplane_rotator.md` R153: the step is the sum of two reduced-key digits, 0, 1 or 2; with 128-bit keys it reads
key bit `idx + floor(idx/3)` of each; with 8-bit keys idx and idx + 6 read the same. -/
def Obligations.FstepAddsTwoDigits : Prop :=
  (∀ (a b : BitString) (idx : Nat), 1 ≤ (reduce a).length → 1 ≤ (reduce b).length →
    fstep a b idx ≤ 2 ∧
    fstep a b idx = (bitAt (reduce a) (idx % (reduce a).length)).toNat
      + (bitAt (reduce b) (idx % (reduce b).length)).toNat) ∧
  (∀ (a b : BitString) (idx : Nat), a.length = 128 → b.length = 128 → idx < 24 →
    fstep a b idx = (bitAt a (idx + idx / 3)).toNat + (bitAt b (idx + idx / 3)).toNat) ∧
  (∀ (a b : BitString) (idx : Nat), a.length = 8 → b.length = 8 → fstep a b (idx + 6) = fstep a b idx)

/-- `43_bitplane_rotator.md` R155: FROT rotates the border of plane p's active window by its signed step count; nothing
else changes; its two checks in their order. -/
def Obligations.FrotRotatesOnePlane : Prop :=
  (∀ (p : Nat) (steps : Int), p < 32 → -32768 ≤ steps → steps ≤ 32767 →
    decode (BitVec.ofNat 32 (wrap steps 65536 * 65536 + p * 512 + 0x30)) = .ok (.frot p steps)) ∧
  ∀ (s : State) (p : Nat) (steps : Int), s.Inv →
    (¬ s.DimsLegal → exec (.frot p steps) s = .next (s.raise .dim)) ∧
    (s.DimsLegal → 24 ≤ p → exec (.frot p steps) s = .next (s.raise .plane)) ∧
    (s.DimsLegal → p < 24 → ∃ t, exec (.frot p steps) s = .next t ∧
      t = { s with mem := t.mem, status := { s.status with busy := false, done := true } } ∧
      (∀ y x, y < s.height → x < s.width → t.pln p y x = frot (s.pln p) s.height s.width steps y x) ∧
      ∀ a, ¬ s.InPlaneWindow p a → t.mem.read a = s.mem.read a)

/-- `43_bitplane_rotator.md` R156: FROTK rotates plane p by the step FK1 and FK2 give it, negated for I; nothing else
changes; its two checks in their order; and I undoes F. -/
def Obligations.FrotkRotatesByTheKeyStep : Prop :=
  (∀ p, p < 32 → decode (BitVec.ofNat 32 (p * 512 + 0x31)) = .ok (.frotk p .fwd) ∧
    decode (BitVec.ofNat 32 (p * 512 + 256 + 0x31)) = .ok (.frotk p .inv)) ∧
  ∀ (s : State) (p : Nat) (dir : Dir), s.Inv →
    (¬ s.DimsLegal → exec (.frotk p dir) s = .next (s.raise .dim)) ∧
    (s.DimsLegal → 24 ≤ p → exec (.frotk p dir) s = .next (s.raise .plane)) ∧
    (s.DimsLegal → p < 24 → ∃ t, exec (.frotk p dir) s = .next t ∧
      t = { s with mem := t.mem, status := { s.status with busy := false, done := true } } ∧
      (∀ y x, y < s.height → x < s.width → t.pln p y x = frot (s.pln p) s.height s.width
        (if dir = .fwd then (fstep s.fk1.bits s.fk2.bits p : Int) else -(fstep s.fk1.bits s.fk2.bits p : Int)) y x) ∧
      (∀ a, ¬ s.InPlaneWindow p a → t.mem.read a = s.mem.read a) ∧
      ∃ u, exec (.frotk p dir.opposite) t = .next u ∧ u.mem = s.mem)

/-- `43_bitplane_rotator.md` R157: FROTA has the effect of FROTK on planes 0 to 23, in whatever order, and rotates each by
its step; nothing else changes; and I undoes F. -/
def Obligations.FrotaRotatesEveryPlane : Prop :=
  decode 0x00000032 = .ok (.frota .fwd) ∧ decode 0x00000132 = .ok (.frota .inv) ∧
  ∀ (s : State) (dir : Dir), s.Inv →
    (¬ s.DimsLegal → exec (.frota dir) s = .next (s.raise .dim)) ∧
    (s.DimsLegal →
      (∀ order : List Nat, order.Perm (List.range 24) →
        exec (.frota dir) s = runCommands (order.map fun p => .frotk p dir) s) ∧
      ∃ t, exec (.frota dir) s = .next t ∧
        t = { s with mem := t.mem, status := { s.status with busy := false, done := true } } ∧
        (∀ p y x, p < 24 → y < s.height → x < s.width → t.pln p y x = frot (s.pln p) s.height s.width
          (if dir = .fwd then (fstep s.fk1.bits s.fk2.bits p : Int) else -(fstep s.fk1.bits s.fk2.bits p : Int)) y x) ∧
        (∀ a, ¬ s.InPlnWindow a → t.mem.read a = s.mem.read a) ∧
        ∃ u, exec (.frota dir.opposite) t = .next u ∧ u.mem = s.mem)

/-- Only 24 bits of each final key influence the frame rotation (`43_bitplane_rotator.md` R153): FROTA on two states
that differ in the other bits of FK1 and FK2 leaves the same memory. -/
def Obligations.FrotaIgnoresTheOtherKeyBits : Prop :=
  ∀ (s : State) (f1 f2 : Key) (dir : Dir),
    (∀ idx < 24, f1.bit (idx + idx / 3) = s.fk1.bit (idx + idx / 3) ∧
      f2.bit (idx + idx / 3) = s.fk2.bit (idx + idx / 3)) →
    ∃ t u, exec (.frota dir) s = .next t ∧ exec (.frota dir) { s with fk1 := f1, fk2 := f2 } = .next u ∧
      u = { t with fk1 := f1, fk2 := f2 }

/-! ### The plane_reorderer -/

/-- `44_plane_reorderer.md` R171: PSHUF makes plane p what plane `8*floor(p/8) + 7 - (p mod 8)` was, inside the active
window; nothing else changes. -/
def Obligations.PshufReversesGroups : Prop :=
  decode 0x00000040 = .ok .pshuf ∧
  ∀ s : State, s.Inv →
    (¬ s.DimsLegal → exec .pshuf s = .next (s.raise .dim)) ∧
    (s.DimsLegal → ∃ t, exec .pshuf s = .next t ∧
      t = { s with mem := t.mem, status := { s.status with busy := false, done := true } } ∧
      (∀ g k y x, g < 3 → k < 8 → y < s.height → x < s.width → t.pln (8 * g + k) y x = s.pln (8 * g + (7 - k)) y x) ∧
      ∀ a, ¬ s.InPlnWindow a → t.mem.read a = s.mem.read a)

/-- `44_plane_reorderer.md` R172: PSHUF twice leaves PLN, and all of memory, as it was. -/
def Obligations.PshufTwiceIsIdentity : Prop :=
  ∀ s : State, s.Inv → s.DimsLegal → ∃ t, runCommands [.pshuf, .pshuf] s = .next t ∧ t.mem = s.mem

/-! ### The pipeline -/

/-- `45_pipeline_system.md` R177: ENC has the effect of SCR, DECOMP, FROTA F, PSHUF, RECOMP; its two checks in their
order; what it leaves in the keys; an all-zero image stays all-zero. -/
def Obligations.EncIsItsSequence : Prop :=
  decode 0x00000050 = .ok .enc ∧
  ∀ s : State, s.Inv →
    (¬ s.DimsLegal → exec .enc s = .next (s.raise .dim)) ∧
    (s.DimsLegal → ¬ s.RoundsLegal → exec .enc s = .next (s.raise .rounds)) ∧
    (s.DimsLegal → s.RoundsLegal →
      exec .enc s = runCommands [.scr, .decomp, .frota .fwd, .pshuf, .recomp] s ∧
      ∃ t, exec .enc s = .next t ∧
        t = { s with mem := t.mem, k1 := t.k1, k2 := t.k2, fk1 := t.k1, fk2 := t.k2, rks := t.rks,
                     status := { s.status with busy := false, done := true } } ∧
        (∀ r < s.roundCount, t.pair r = { k1 := Key.update^[r] s.k1, k2 := Key.update^[r] s.k2 }) ∧
        (∀ r, s.roundCount ≤ r → t.pair r = s.pair r) ∧
        t.k1 = Key.update^[s.roundCount] s.k1 ∧ t.k2 = Key.update^[s.roundCount] s.k2 ∧
        (∀ c y x, c < 3 → y < s.height → x < s.width →
          (t.img c y x).toNat = ∑ b ∈ Finset.range 8, (t.pln (8 * c + b) y x).toNat * 2 ^ b) ∧
        (∀ a, ¬ s.InImgWindow a → ¬ s.InPlnWindow a → t.mem.read a = s.mem.read a) ∧
        ((∀ c y x, c < 3 → y < s.height → x < s.width → s.img c y x = 0) →
          ∀ c y x, c < 3 → y < s.height → x < s.width → t.img c y x = 0))

/-- `45_pipeline_system.md` R178: DEC has the effect of DECOMP, PSHUF, FROTA I, RECOMP, USCR; its two checks in their
order; what it leaves in the keys. -/
def Obligations.DecIsItsSequence : Prop :=
  decode 0x00000051 = .ok .dec ∧
  ∀ s : State, s.Inv →
    (¬ s.DimsLegal → exec .dec s = .next (s.raise .dim)) ∧
    (s.DimsLegal → ¬ s.RoundsLegal → exec .dec s = .next (s.raise .rounds)) ∧
    (s.DimsLegal → s.RoundsLegal →
      exec .dec s = runCommands [.decomp, .pshuf, .frota .inv, .recomp, .uscr] s ∧
      ∃ t, exec .dec s = .next t ∧
        t = { s with mem := t.mem, k1 := (s.pair 0).k1, k2 := (s.pair 0).k2,
                     status := { s.status with busy := false, done := true } } ∧
        ∀ a, ¬ s.InImgWindow a → ¬ s.InPlnWindow a → t.mem.read a = s.mem.read a)

/-- `45_pipeline_system.md` R179: after ENC, DEC in any state with the dimensions, round count, schedule and image ENC
left (PLN, K1 and K2 whatever they are) gives the image back, and K1 and K2. -/
def Obligations.DecInvertsEnc : Prop :=
  ∀ s : State, s.Inv → s.DimsLegal → s.RoundsLegal →
    ∃ t, exec .enc s = .next t ∧
      ∀ u : State, u.Inv → u.params = t.params → u.dimH = t.dimH → u.dimW = t.dimW → u.rounds = t.rounds →
        u.rmax = t.rmax → (∀ r < t.roundCount, u.pair r = t.pair r) → u.fk1 = t.fk1 → u.fk2 = t.fk2 →
        SameImgWindow t u →
        ∃ v, exec .dec u = .next v ∧ SameImgWindow s v ∧ v.k1 = s.k1 ∧ v.k2 = s.k2

/-- A Host that issues the primitive commands one by one reaches the end state of the composite command
(`45_pipeline_system.md` R180). -/
def Obligations.CompositesArePrimitivesInOrder : Prop :=
  ∀ s : State, s.Inv → s.DimsLegal → s.RoundsLegal →
    exec .enc s = runCommands (scrambleCommands s.roundCount ++ [.decomp, .frota .fwd, .pshuf, .recomp]) s ∧
    exec .dec s = runCommands ([.decomp, .pshuf, .frota .inv, .recomp] ++ unscrambleCommands s.roundCount) s

/-- USCR and DEC never compare the schedule with anything (`60_exceptions.md` R197): with legal sizes they complete
whatever the key registers, the schedule store and the memory hold. -/
def Obligations.ScheduleMismatchIsSilent : Prop :=
  ∀ (s : State) (i : Instr) (k1 k2 f1 f2 : Key) (pairs : List KeyPair) (m : Memory),
    s.DimsLegal → s.RoundsLegal → pairs.length = s.rmax → (i = .uscr ∨ i = .dec) →
    ∃ t, exec i { s with k1 := k1, k2 := k2, fk1 := f1, fk2 := f2, rks := pairs, mem := m } = .next t ∧
      t.status = { s.status with busy := false, done := true }

/-! ### Whole-machine rules -/

/-- No command writes a cell outside the active window, and none reads one: on two states that agree but for cells
outside the window, a command ends in states that agree but for such cells (`10_state.md` R27). -/
def Obligations.CommandsStayInTheActiveWindow : Prop :=
  (∀ (i : Instr) (s t : State) (a : Nat), exec i s = .next t → ¬ s.InImgWindow a → ¬ s.InPlnWindow a →
    t.mem.read a = s.mem.read a) ∧
  ∀ (i : Instr) (s s' : State), s.Inv → s'.Inv → s' = { s with mem := s'.mem } → SameImgWindow s s' →
    SamePlnWindow s s' →
    ∃ t t', exec i s = .next t ∧ exec i s' = .next t' ∧ t' = { t with mem := t'.mem } ∧ SameImgWindow t t' ∧
      SamePlnWindow t t'

/-- Which command writes which state (the "writes" column of the table of `10_state.md` R36). -/
def Obligations.CommandsWriteOnlyTheirColumn : Prop :=
  ∀ (i : Instr) (s t : State), exec i s = .next t →
    t = { s with status := t.status, k1 := t.k1, k2 := t.k2, fk1 := t.fk1, fk2 := t.fk2, rks := t.rks, mem := t.mem } ∧
    t.rmax = s.rmax ∧
    (¬ (i = .kupd ∨ (∃ r, i = .kld r) ∨ i = .scr ∨ i = .uscr ∨ i = .enc ∨ i = .dec) → t.k1 = s.k1 ∧ t.k2 = s.k2) ∧
    (¬ (i = .kfin ∨ i = .scr ∨ i = .enc) → t.fk1 = s.fk1 ∧ t.fk2 = s.fk2) ∧
    (∀ q, (i = .scr ∨ i = .enc → s.roundCount ≤ q) → i ≠ .kst q → t.pair q = s.pair q) ∧
    (¬ (i = .recomp ∨ (∃ dir, i = .rowp dir) ∨ (∃ dir, i = .colp dir) ∨ i = .scr ∨ i = .uscr ∨ i = .enc ∨ i = .dec) →
      ∀ a, ¬ s.InPlnWindow a → t.mem.read a = s.mem.read a) ∧
    (∀ p, (∃ steps, i = .frot p steps) ∨ (∃ dir, i = .frotk p dir) →
      ∀ a, ¬ s.InPlaneWindow p a → t.mem.read a = s.mem.read a) ∧
    (¬ (i = .decomp ∨ (∃ p steps, i = .frot p steps) ∨ (∃ p dir, i = .frotk p dir) ∨ (∃ dir, i = .frota dir) ∨
        i = .pshuf ∨ i = .enc ∨ i = .dec) →
      ∀ a, ¬ s.InImgWindow a → t.mem.read a = s.mem.read a)
end

