-- ==== Sys2Proof/Laws/Encoding.lean ====
section
/-! SUPPORT. The bits and fields of an assembled command word, and which bits each format's mask keeps of it. -/

namespace Sys2Proof

variable (imm : BitVec 16) (p : BitVec 5) (dir : BitVec 1) (op : BitVec 8)

/-- The layout of `30_encoding.md` R81, bit by bit. -/
theorem getLsbD_assemble (i : Nat) :
    (assemble imm p dir op).getLsbD i =
      if i < 8 then op.getLsbD i else if i < 9 then dir.getLsbD (i - 8)
      else if i < 14 then p.getLsbD (i - 9) else if i < 16 then false else imm.getLsbD (i - 16) := by
  simp only [assemble, BitVec.getLsbD_append]
  split_ifs <;> first | omega | rfl | simp [BitVec.getLsbD_zero]

@[simp] theorem opField_assemble : opField (assemble imm p dir op) = op := by
  apply BitVec.eq_of_getLsbD_eq
  intro i hi
  simp only [opField, BitVec.getLsbD_extractLsb', getLsbD_assemble]
  simp [hi]

@[simp] theorem dirField_assemble : dirField (assemble imm p dir op) = if dir.getLsbD 0 then .inv else .fwd := by
  rw [dirField, getLsbD_assemble]
  rfl

@[simp] theorem pField_assemble : pField (assemble imm p dir op) = p.toNat := by
  rw [pField]
  congr 1
  apply BitVec.eq_of_getLsbD_eq
  intro i hi
  simp only [BitVec.getLsbD_extractLsb', getLsbD_assemble]
  rw [if_neg (by omega), if_neg (by omega), if_pos (by omega), Nat.add_sub_cancel_left]
  simp [hi]

@[simp] theorem immField_assemble : immField (assemble imm p dir op) = imm := by
  apply BitVec.eq_of_getLsbD_eq
  intro i hi
  simp only [immField, BitVec.getLsbD_extractLsb', getLsbD_assemble]
  rw [if_neg (by omega), if_neg (by omega), if_neg (by omega), if_neg (by omega), Nat.add_sub_cancel_left]
  simp [hi]

/-- A word with no operand is its OP value (format N). -/
theorem assemble_and_maskN : assemble 0 0 0 op &&& Format.n.mask = op.setWidth 32 := by
  apply BitVec.eq_of_getLsbD_eq
  intro i hi
  rw [BitVec.getLsbD_and, getLsbD_assemble]
  interval_cases i <;> simp [Format.mask]

/-- Format D masks out DIR. -/
theorem assemble_and_maskD : assemble 0 0 dir op &&& Format.d.mask = op.setWidth 32 := by
  apply BitVec.eq_of_getLsbD_eq
  intro i hi
  rw [BitVec.getLsbD_and, getLsbD_assemble]
  interval_cases i <;> simp [Format.mask]

/-- Format PI masks out P and IMM. -/
theorem assemble_and_maskPI : assemble imm p 0 op &&& Format.pi.mask = op.setWidth 32 := by
  apply BitVec.eq_of_getLsbD_eq
  intro i hi
  rw [BitVec.getLsbD_and, getLsbD_assemble]
  interval_cases i <;> simp [Format.mask]

/-- Format PD masks out P and DIR. -/
theorem assemble_and_maskPD : assemble 0 p dir op &&& Format.pd.mask = op.setWidth 32 := by
  apply BitVec.eq_of_getLsbD_eq
  intro i hi
  rw [BitVec.getLsbD_and, getLsbD_assemble]
  interval_cases i <;> simp [Format.mask]

/-- Format R masks out IMM. -/
theorem assemble_and_maskR : assemble imm 0 0 op &&& Format.r.mask = op.setWidth 32 := by
  apply BitVec.eq_of_getLsbD_eq
  intro i hi
  rw [BitVec.getLsbD_and, getLsbD_assemble]
  interval_cases i <;> simp [Format.mask]

end Sys2Proof
end

