-- ==== Sys2Proof/Laws/Guards.lean ====
section
/-! SUPPORT. What the shared operations of the meanings can do: each precondition test passes or aborts, and an abort
changes STATUS only. -/

namespace Sys2Proof.Machine

variable (s : State)

/-- Everything the image-size test can do. -/
theorem State.withDims_cases (go : Outcome) :
    (s.DimsLegal ∧ s.withDims go = go) ∨ (¬ s.DimsLegal ∧ s.withDims go = .next (s.raise .dim)) := by
  by_cases h : s.DimsLegal
  · exact .inl ⟨h, if_pos h⟩
  · exact .inr ⟨h, if_neg h⟩

theorem State.withDims_of_legal {s : State} (h : s.DimsLegal) (go : Outcome) : s.withDims go = go := if_pos h

theorem State.withDims_of_illegal {s : State} (h : ¬ s.DimsLegal) (go : Outcome) :
    s.withDims go = .next (s.raise .dim) := if_neg h

/-- Everything the plane test can do. -/
theorem State.withPlane_cases (p : Nat) (go : Outcome) :
    (PlaneLegal p ∧ s.withPlane p go = go) ∨ (¬ PlaneLegal p ∧ s.withPlane p go = .next (s.raise .plane)) := by
  by_cases h : PlaneLegal p
  · exact .inl ⟨h, if_pos h⟩
  · exact .inr ⟨h, if_neg h⟩

theorem State.withPlane_of_legal {p : Nat} (h : PlaneLegal p) (go : Outcome) : s.withPlane p go = go := if_pos h

theorem State.withPlane_of_illegal {p : Nat} (h : ¬ PlaneLegal p) (go : Outcome) :
    s.withPlane p go = .next (s.raise .plane) := if_neg h

/-- Everything the round-count test can do. -/
theorem State.withRounds_cases (go : Outcome) :
    (s.RoundsLegal ∧ s.withRounds go = go) ∨ (¬ s.RoundsLegal ∧ s.withRounds go = .next (s.raise .rounds)) := by
  by_cases h : s.RoundsLegal
  · exact .inl ⟨h, if_pos h⟩
  · exact .inr ⟨h, if_neg h⟩

theorem State.withRounds_of_legal {s : State} (h : s.RoundsLegal) (go : Outcome) : s.withRounds go = go := if_pos h

theorem State.withRounds_of_illegal {s : State} (h : ¬ s.RoundsLegal) (go : Outcome) :
    s.withRounds go = .next (s.raise .rounds) := if_neg h

/-- Everything the slot test can do. -/
theorem State.withSlot_cases (r : Nat) (go : Outcome) :
    (s.SlotLegal r ∧ s.withSlot r go = go) ∨ (¬ s.SlotLegal r ∧ s.withSlot r go = .next (s.raise .rounds)) := by
  by_cases h : s.SlotLegal r
  · exact .inl ⟨h, if_pos h⟩
  · exact .inr ⟨h, if_neg h⟩

theorem State.withSlot_of_legal {s : State} {r : Nat} (h : s.SlotLegal r) (go : Outcome) : s.withSlot r go = go :=
  if_pos h

theorem State.withSlot_of_illegal {s : State} {r : Nat} (h : ¬ s.SlotLegal r) (go : Outcome) :
    s.withSlot r go = .next (s.raise .rounds) := if_neg h

/-- The STATUS of an abort, `60_exceptions.md` R192. -/
@[simp] theorem Status.raise_busy (st : Status) (e : ErrCode) : (st.raise e).busy = false := rfl
@[simp] theorem Status.raise_done (st : Status) (e : ErrCode) : (st.raise e).done = st.done := rfl
@[simp] theorem Status.raise_err (st : Status) (e : ErrCode) : (st.raise e).err = true := rfl
@[simp] theorem Status.raise_errcode (st : Status) (e : ErrCode) : (st.raise e).errcode = e.code := rfl

/-- The STATUS of a completion, `10_state.md` R33. -/
@[simp] theorem Status.complete_busy (st : Status) : st.complete.busy = false := rfl
@[simp] theorem Status.complete_done (st : Status) : st.complete.done = true := rfl
@[simp] theorem Status.complete_err (st : Status) : st.complete.err = st.err := rfl
@[simp] theorem Status.complete_errcode (st : Status) : st.complete.errcode = st.errcode := rfl

/-- The STATUS of an acceptance, `10_state.md` R22. -/
@[simp] theorem Status.accept_busy (st : Status) : st.accept.busy = true := rfl
@[simp] theorem Status.accept_done (st : Status) : st.accept.done = false := rfl
@[simp] theorem Status.accept_err (st : Status) : st.accept.err = st.err := rfl
@[simp] theorem Status.accept_errcode (st : Status) : st.accept.errcode = st.errcode := rfl

/-- The STATUS after ERRCLR, `45_pipeline_system.md` R176. -/
@[simp] theorem Status.clearError_busy (st : Status) : st.clearError.busy = st.busy := rfl
@[simp] theorem Status.clearError_done (st : Status) : st.clearError.done = st.done := rfl
@[simp] theorem Status.clearError_err (st : Status) : st.clearError.err = false := rfl
@[simp] theorem Status.clearError_errcode (st : Status) : st.clearError.errcode = 0 := rfl

end Sys2Proof.Machine
end

