-- ==== Sys2Proof/Laws/Keys.lean ====
section
/-! SUPPORT. Key registers as bit-strings, and the lengths of what the key functions return. -/

namespace Sys2Proof

@[simp] theorem Key.length_bits (k : Key) : k.bits.length = 128 := by simp [Key.bits]

/-- A register built from a bit-string of length KLEN holds it. -/
theorem Key.bits_ofBits {b : BitString} (h : b.length = 128) : (Key.ofBits b).bits = b := by
  apply List.ext_getElem
  · simp [h]
  · intro i h1 h2
    simp [Key.bits, Key.ofBits, List.getD_eq_getElem?_getD, List.getElem?_eq_getElem h2]

/-- Two registers with the same bit-string are the same. -/
theorem Key.ext_bits {k l : Key} (h : k.bits = l.bits) : k = l := Vector.toList_inj.1 h

namespace Machine

@[simp] theorem length_getBits (k : BitString) (start n : Nat) : (getBits k start n).length = n := by simp [getBits]

@[simp] theorem length_rotl1 (k : BitString) : (rotl1 k).length = k.length := by simp [rotl1]

@[simp] theorem length_foldHalves (s : BitString) : (foldHalves s).length = s.length := by simp [foldHalves]

@[simp] theorem length_flipLast (t : BitString) : (flipLast t).length = t.length := by simp [flipLast]

@[simp] theorem length_update1 (k : BitString) : (update1 k).length = k.length := by simp [update1]

/-- A bit of a bit-string given index by index. -/
theorem bitAt_map_range {n i : Nat} (f : Nat → Bool) (hi : i < n) : bitAt ((List.range n).map f) i = f i := by
  simp [bitAt, hi]

theorem digit_le_one (q : BitString) (m : Nat) : digit q m ≤ 1 := by
  simp only [digit]
  exact Bool.toNat_le _

/-- A 4-bit window is at most 15. -/
theorem win4_le (k : BitString) (off : Nat) : win4 k off ≤ 15 := by
  have h0 := digit_le_one (getBits k off 4) 0
  have h1 := digit_le_one (getBits k off 4) 1
  have h2 := digit_le_one (getBits k off 4) 2
  have h3 := digit_le_one (getBits k off 4) 3
  simp only [win4]
  omega

end Machine

/-- The register after KUPD holds `update1` of its bit-string. -/
theorem Key.bits_update (k : Key) : k.update.bits = Machine.update1 k.bits :=
  Key.bits_ofBits (by simp)

end Sys2Proof
end

