-- ==== Sys2Proof/Laws/Memory.lean ====
section
/-! SUPPORT. The laws of the memory list: read after write, the canonical form, and that equal reads are equal data. -/

namespace Sys2Proof.Machine

@[simp] theorem Memory.read_nil (a : Nat) : Memory.read [] a = 0 := rfl

theorem Memory.above_mono {a b : Nat} {m : Memory} (hab : a ≤ b) (h : Memory.above b m = true) :
    Memory.above a m = true := by
  simp only [Memory.above, List.all_eq_true, decide_eq_true_eq] at h ⊢
  exact fun cell hc => lt_of_le_of_lt hab (h cell hc)

theorem Memory.above_write {a b : Nat} {v : Byte} {m : Memory} (hab : a < b) (h : Memory.above a m = true) :
    Memory.above a (m.write b v) = true := by
  induction m with
  | nil => simp only [Memory.write]; split <;> simp [Memory.above, hab]
  | cons cell m ih =>
    obtain ⟨c, w⟩ := cell
    simp only [Memory.above, List.all_cons, Bool.and_eq_true, decide_eq_true_eq] at h ih
    obtain ⟨hc, hm⟩ := h
    simp only [Memory.write]
    split_ifs <;> simp [Memory.above, hab, hc, hm, ih]

theorem Memory.read_eq_zero_of_above {a : Nat} {m : Memory} (h : Memory.above a m = true) : m.read a = 0 := by
  induction m with
  | nil => rfl
  | cons cell m ih =>
    simp only [Memory.above, List.all_cons, Bool.and_eq_true, decide_eq_true_eq] at h
    simp [Memory.read, Nat.ne_of_lt h.1, ih h.2]

@[simp] theorem Memory.wf_nil : Memory.wf [] = true := rfl

theorem Memory.wf_cons {a : Nat} {v : Byte} {m : Memory} :
    Memory.wf ((a, v) :: m) = true ↔ v ≠ 0 ∧ Memory.above a m = true ∧ Memory.wf m = true := by
  rw [Memory.wf, Bool.and_eq_true, Bool.and_eq_true, decide_eq_true_iff, and_assoc]
  rfl

/-- A write keeps the canonical form. -/
theorem Memory.wf_write {m : Memory} (h : m.wf = true) (a : Nat) (v : Byte) : (m.write a v).wf = true := by
  induction m with
  | nil =>
    simp only [Memory.write]
    split_ifs with hv
    · rfl
    · exact Memory.wf_cons.2 ⟨hv, rfl, rfl⟩
  | cons cell m ih =>
    obtain ⟨b, w⟩ := cell
    obtain ⟨hw, hab, hm⟩ := Memory.wf_cons.1 h
    simp only [Memory.write]
    split_ifs with hlt hv heq hv
    · exact h
    · refine Memory.wf_cons.2 ⟨hv, ?_, h⟩
      simp only [Memory.above, List.all_cons, Bool.and_eq_true, decide_eq_true_eq]
      exact ⟨hlt, Memory.above_mono hlt.le hab⟩
    · exact hm
    · exact Memory.wf_cons.2 ⟨hv, heq ▸ hab, hm⟩
    · exact Memory.wf_cons.2 ⟨hw, Memory.above_write (by omega) hab, ih hm⟩

/-- A write leaves every other address alone; the canonical form is not needed for it. -/
theorem Memory.read_write_of_ne {m : Memory} {a b : Nat} (h : b ≠ a) (v : Byte) :
    (m.write a v).read b = m.read b := by
  induction m with
  | nil => simp only [Memory.write]; split_ifs <;> simp [Memory.read, Memory.unlisted, h]
  | cons cell m ih =>
    obtain ⟨c, w⟩ := cell
    simp only [Memory.write]
    split_ifs with h1 h2 h3 h4
    · rfl
    · simp [Memory.read, h]
    · simp [Memory.read, ← h3, h]
    · simp [Memory.read, ← h3, h]
    · simp [Memory.read, ih]

/-- A read after a write to the same address gives the byte written. -/
theorem Memory.read_write_self {m : Memory} (hm : m.wf = true) (a : Nat) (v : Byte) : (m.write a v).read a = v := by
  induction m with
  | nil => simp only [Memory.write]; split_ifs with hv <;> simp [Memory.read, hv, Memory.unlisted]
  | cons cell m ih =>
    obtain ⟨b, w⟩ := cell
    obtain ⟨-, hab, hm⟩ := Memory.wf_cons.1 hm
    simp only [Memory.write]
    split_ifs with h1 h2 h3 h4
    · subst h2
      have : Memory.above a ((b, w) :: m) = true := by
        simp only [Memory.above, List.all_cons, Bool.and_eq_true, decide_eq_true_eq]
        exact ⟨h1, Memory.above_mono h1.le hab⟩
      exact Memory.read_eq_zero_of_above this
    · simp [Memory.read]
    · subst h4 h3; exact Memory.read_eq_zero_of_above hab
    · simp [Memory.read]
    · simp [Memory.read, h3, ih hm]

theorem Memory.read_write {m : Memory} (hm : m.wf = true) (a b : Nat) (v : Byte) :
    (m.write a v).read b = if b = a then v else m.read b := by
  split_ifs with h
  · rw [h, Memory.read_write_self hm]
  · exact Memory.read_write_of_ne h v

/-- A write adds no entry but its own. -/
theorem Memory.mem_write {m : Memory} {a : Nat} {v : Byte} {cell : Host.Cell} (h : cell ∈ m.write a v) :
    cell ∈ m ∨ cell = (a, v) := by
  induction m with
  | nil =>
    simp only [Memory.write] at h
    split_ifs at h <;> simp_all
  | cons c m ih =>
    simp only [Memory.write] at h
    split_ifs at h <;> simp_all <;> tauto

@[simp] theorem Memory.writeAll_nil (m : Memory) : m.writeAll [] = m := rfl

@[simp] theorem Memory.writeAll_cons (m : Memory) (cell : Host.Cell) (cells : List Host.Cell) :
    m.writeAll (cell :: cells) = (m.write cell.1 cell.2).writeAll cells := rfl

/-- Writing a list of cells keeps the canonical form. -/
theorem Memory.wf_writeAll {m : Memory} (h : m.wf = true) (cells : List Host.Cell) :
    (m.writeAll cells).wf = true := by
  induction cells generalizing m with
  | nil => exact h
  | cons cell cells ih => exact ih (Memory.wf_write h _ _)

theorem Memory.read_writeAll_of_not_mem {m : Memory} {cells : List Host.Cell} {a : Nat}
    (h : ∀ cell ∈ cells, cell.1 ≠ a) : (m.writeAll cells).read a = m.read a := by
  induction cells generalizing m with
  | nil => rfl
  | cons cell cells ih =>
    simp only [List.mem_cons, forall_eq_or_imp] at h
    rw [Memory.writeAll_cons, ih h.2, Memory.read_write_of_ne h.1.symm]

/-- If every cell of the list at the address carries the same byte, that byte is read back. -/
theorem Memory.read_writeAll_of_mem {m : Memory} (hm : m.wf = true) {cells : List Host.Cell} {a : Nat} {v : Byte}
    (hmem : (a, v) ∈ cells) (hsame : ∀ cell ∈ cells, cell.1 = a → cell.2 = v) : (m.writeAll cells).read a = v := by
  induction cells generalizing m with
  | nil => simp at hmem
  | cons cell cells ih =>
    by_cases hin : (a, v) ∈ cells
    · exact ih (Memory.wf_write hm _ _) hin fun c hc => hsame c (List.mem_cons_of_mem _ hc)
    · have hcell : cell = (a, v) := by simpa [hin, eq_comm] using hmem
      subst hcell
      have hnot : ∀ c ∈ cells, c.1 ≠ a := fun c hc hca =>
        hin (by have := hsame c (List.mem_cons_of_mem _ hc) hca; rwa [← hca, ← this])
      rw [Memory.writeAll_cons, Memory.read_writeAll_of_not_mem hnot, Memory.read_write_self hm]

theorem Memory.mem_writeAll {m : Memory} {cells : List Host.Cell} {cell : Host.Cell} (h : cell ∈ m.writeAll cells) :
    cell ∈ m ∨ cell ∈ cells := by
  induction cells generalizing m with
  | nil => exact .inl h
  | cons c cells ih =>
    rcases ih h with h | h
    · rcases Memory.mem_write h with h | h
      · exact .inl h
      · exact .inr (by simp [h])
    · exact .inr (List.mem_cons_of_mem _ h)

/-- The canonical form is canonical: two memories in it that read the same everywhere are the same list. -/
theorem Memory.ext_of_wf {m n : Memory} (hm : m.wf = true) (hn : n.wf = true) (h : ∀ a, m.read a = n.read a) :
    m = n := by
  induction m generalizing n with
  | nil =>
    cases n with
    | nil => rfl
    | cons cell n =>
      obtain ⟨b, w⟩ := cell
      have hb := h b
      simp [Memory.read] at hb
      exact absurd hb.symm (Memory.wf_cons.1 hn).1
  | cons cell m ih =>
    obtain ⟨a, v⟩ := cell
    obtain ⟨hv, ha, hm'⟩ := Memory.wf_cons.1 hm
    cases n with
    | nil =>
      have hb := h a
      simp [Memory.read] at hb
      exact absurd hb hv
    | cons cell n =>
      obtain ⟨b, w⟩ := cell
      obtain ⟨hw, hb, hn'⟩ := Memory.wf_cons.1 hn
      have hab : a = b := by
        rcases Nat.lt_trichotomy a b with hlt | heq | hgt
        · have h1 := h a
          simp [Memory.read, Nat.ne_of_lt hlt, Memory.read_eq_zero_of_above (Memory.above_mono hlt.le hb)] at h1
          exact absurd h1 hv
        · exact heq
        · have h1 := h b
          simp [Memory.read, Nat.ne_of_lt hgt, Memory.read_eq_zero_of_above (Memory.above_mono hgt.le ha)] at h1
          exact absurd h1.symm hw
      subst hab
      have hvw : v = w := by simpa [Memory.read] using h a
      subst hvw
      rw [ih hm' hn' fun c => ?_]
      by_cases hc : c = a
      · subst hc
        rw [Memory.read_eq_zero_of_above ha, Memory.read_eq_zero_of_above hb]
      · simpa [Memory.read, hc] using h c

end Sys2Proof.Machine
end

