-- ==== Sys2Proof/Laws/PerInstr.lean ====
section
/-! SUPPORT. The family EncodesItsRow, one lemma per command: the encoder's word is an instance of a row of the opcode
map (`30_encoding.md` R82, R83). -/

namespace Sys2Proof.Laws.EncodesItsRow

/-- The word of the command carries the OP of a row of the opcode map and is an instance of that row. -/
def Statement (i : Instr) : Prop :=
  ∃ row ∈ opcodeTable, row.op = opField (encode i) ∧ encode i &&& row.format.mask = row.matchWord

theorem nop : Statement .nop :=
  ⟨opcodeTable[0], by simp [opcodeTable], (opField_assemble ..).symm, assemble_and_maskN ..⟩

theorem errclr : Statement .errclr :=
  ⟨opcodeTable[1], by simp [opcodeTable], (opField_assemble ..).symm, assemble_and_maskN ..⟩

theorem decomp : Statement .decomp :=
  ⟨opcodeTable[2], by simp [opcodeTable], (opField_assemble ..).symm, assemble_and_maskN ..⟩

theorem recomp : Statement .recomp :=
  ⟨opcodeTable[3], by simp [opcodeTable], (opField_assemble ..).symm, assemble_and_maskN ..⟩

theorem rowp (dir : Dir) : Statement (.rowp dir) :=
  ⟨opcodeTable[4], by simp [opcodeTable], (opField_assemble ..).symm, assemble_and_maskD ..⟩

theorem colp (dir : Dir) : Statement (.colp dir) :=
  ⟨opcodeTable[5], by simp [opcodeTable], (opField_assemble ..).symm, assemble_and_maskD ..⟩

theorem kupd : Statement .kupd :=
  ⟨opcodeTable[6], by simp [opcodeTable], (opField_assemble ..).symm, assemble_and_maskN ..⟩

theorem kst (r : Nat) : Statement (.kst r) :=
  ⟨opcodeTable[7], by simp [opcodeTable], (opField_assemble ..).symm, assemble_and_maskR ..⟩

theorem kld (r : Nat) : Statement (.kld r) :=
  ⟨opcodeTable[8], by simp [opcodeTable], (opField_assemble ..).symm, assemble_and_maskR ..⟩

theorem kfin : Statement .kfin :=
  ⟨opcodeTable[9], by simp [opcodeTable], (opField_assemble ..).symm, assemble_and_maskN ..⟩

theorem scr : Statement .scr :=
  ⟨opcodeTable[10], by simp [opcodeTable], (opField_assemble ..).symm, assemble_and_maskN ..⟩

theorem uscr : Statement .uscr :=
  ⟨opcodeTable[11], by simp [opcodeTable], (opField_assemble ..).symm, assemble_and_maskN ..⟩

theorem frot (p : Nat) (steps : Int) : Statement (.frot p steps) :=
  ⟨opcodeTable[12], by simp [opcodeTable], (opField_assemble ..).symm, assemble_and_maskPI ..⟩

theorem frotk (p : Nat) (dir : Dir) : Statement (.frotk p dir) :=
  ⟨opcodeTable[13], by simp [opcodeTable], (opField_assemble ..).symm, assemble_and_maskPD ..⟩

theorem frota (dir : Dir) : Statement (.frota dir) :=
  ⟨opcodeTable[14], by simp [opcodeTable], (opField_assemble ..).symm, assemble_and_maskD ..⟩

theorem pshuf : Statement .pshuf :=
  ⟨opcodeTable[15], by simp [opcodeTable], (opField_assemble ..).symm, assemble_and_maskN ..⟩

theorem enc : Statement .enc :=
  ⟨opcodeTable[16], by simp [opcodeTable], (opField_assemble ..).symm, assemble_and_maskN ..⟩

theorem dec : Statement .dec :=
  ⟨opcodeTable[17], by simp [opcodeTable], (opField_assemble ..).symm, assemble_and_maskN ..⟩

end Sys2Proof.Laws.EncodesItsRow
end

