-- ==== Sys2Proof/Laws/State.lean ====
section
/-! SUPPORT. One lemma per field per update of the state, each true by rfl, and the views of the state (image size,
round count, slots, cells, pairs) that an update leaves alone. -/

namespace Sys2Proof.Machine

variable (s : State)

/-! ### State.accept -/

@[simp] theorem State.accept_status (w : Word) : (s.accept w).status = s.status.accept := rfl
@[simp] theorem State.accept_dimH (w : Word) : (s.accept w).dimH = s.dimH := rfl
@[simp] theorem State.accept_dimW (w : Word) : (s.accept w).dimW = s.dimW := rfl
@[simp] theorem State.accept_rounds (w : Word) : (s.accept w).rounds = s.rounds := rfl
@[simp] theorem State.accept_pend (w : Word) : (s.accept w).pend = w := rfl
@[simp] theorem State.accept_k1 (w : Word) : (s.accept w).k1 = s.k1 := rfl
@[simp] theorem State.accept_k2 (w : Word) : (s.accept w).k2 = s.k2 := rfl
@[simp] theorem State.accept_fk1 (w : Word) : (s.accept w).fk1 = s.fk1 := rfl
@[simp] theorem State.accept_fk2 (w : Word) : (s.accept w).fk2 = s.fk2 := rfl
@[simp] theorem State.accept_rks (w : Word) : (s.accept w).rks = s.rks := rfl
@[simp] theorem State.accept_mem (w : Word) : (s.accept w).mem = s.mem := rfl
@[simp] theorem State.accept_port (w : Word) : (s.accept w).port = s.port := rfl
@[simp] theorem State.accept_response (w : Word) : (s.accept w).response = s.response := rfl
@[simp] theorem State.accept_params (w : Word) : (s.accept w).params = s.params := rfl
@[simp] theorem State.accept_agenda (w : Word) : (s.accept w).agenda = s.agenda := rfl
@[simp] theorem State.accept_resets (w : Word) : (s.accept w).resets = s.resets := rfl
@[simp] theorem State.accept_errReads (w : Word) : (s.accept w).errReads = s.errReads := rfl
@[simp] theorem State.accept_height (w : Word) : (s.accept w).height = s.height := rfl
@[simp] theorem State.accept_width (w : Word) : (s.accept w).width = s.width := rfl
@[simp] theorem State.accept_roundCount (w : Word) : (s.accept w).roundCount = s.roundCount := rfl
@[simp] theorem State.accept_rmax (w : Word) : (s.accept w).rmax = s.rmax := rfl
@[simp] theorem State.accept_pair (w : Word) (slot : Nat) : (s.accept w).pair slot = s.pair slot := rfl
@[simp] theorem State.accept_img (w : Word) (c y x : Nat) : (s.accept w).img c y x = s.img c y x := rfl
@[simp] theorem State.accept_pln (w : Word) (q y x : Nat) : (s.accept w).pln q y x = s.pln q y x := rfl

/-! ### State.complete -/

@[simp] theorem State.complete_status : (s.complete).status = s.status.complete := rfl
@[simp] theorem State.complete_dimH : (s.complete).dimH = s.dimH := rfl
@[simp] theorem State.complete_dimW : (s.complete).dimW = s.dimW := rfl
@[simp] theorem State.complete_rounds : (s.complete).rounds = s.rounds := rfl
@[simp] theorem State.complete_pend : (s.complete).pend = s.pend := rfl
@[simp] theorem State.complete_k1 : (s.complete).k1 = s.k1 := rfl
@[simp] theorem State.complete_k2 : (s.complete).k2 = s.k2 := rfl
@[simp] theorem State.complete_fk1 : (s.complete).fk1 = s.fk1 := rfl
@[simp] theorem State.complete_fk2 : (s.complete).fk2 = s.fk2 := rfl
@[simp] theorem State.complete_rks : (s.complete).rks = s.rks := rfl
@[simp] theorem State.complete_mem : (s.complete).mem = s.mem := rfl
@[simp] theorem State.complete_port : (s.complete).port = s.port := rfl
@[simp] theorem State.complete_response : (s.complete).response = s.response := rfl
@[simp] theorem State.complete_params : (s.complete).params = s.params := rfl
@[simp] theorem State.complete_agenda : (s.complete).agenda = s.agenda := rfl
@[simp] theorem State.complete_resets : (s.complete).resets = s.resets := rfl
@[simp] theorem State.complete_errReads : (s.complete).errReads = s.errReads := rfl
@[simp] theorem State.complete_height : (s.complete).height = s.height := rfl
@[simp] theorem State.complete_width : (s.complete).width = s.width := rfl
@[simp] theorem State.complete_roundCount : (s.complete).roundCount = s.roundCount := rfl
@[simp] theorem State.complete_rmax : (s.complete).rmax = s.rmax := rfl
@[simp] theorem State.complete_pair (slot : Nat) : (s.complete).pair slot = s.pair slot := rfl
@[simp] theorem State.complete_img (c y x : Nat) : (s.complete).img c y x = s.img c y x := rfl
@[simp] theorem State.complete_pln (q y x : Nat) : (s.complete).pln q y x = s.pln q y x := rfl

/-! ### State.raise -/

@[simp] theorem State.raise_status (e : ErrCode) : (s.raise e).status = s.status.raise e := rfl
@[simp] theorem State.raise_dimH (e : ErrCode) : (s.raise e).dimH = s.dimH := rfl
@[simp] theorem State.raise_dimW (e : ErrCode) : (s.raise e).dimW = s.dimW := rfl
@[simp] theorem State.raise_rounds (e : ErrCode) : (s.raise e).rounds = s.rounds := rfl
@[simp] theorem State.raise_pend (e : ErrCode) : (s.raise e).pend = s.pend := rfl
@[simp] theorem State.raise_k1 (e : ErrCode) : (s.raise e).k1 = s.k1 := rfl
@[simp] theorem State.raise_k2 (e : ErrCode) : (s.raise e).k2 = s.k2 := rfl
@[simp] theorem State.raise_fk1 (e : ErrCode) : (s.raise e).fk1 = s.fk1 := rfl
@[simp] theorem State.raise_fk2 (e : ErrCode) : (s.raise e).fk2 = s.fk2 := rfl
@[simp] theorem State.raise_rks (e : ErrCode) : (s.raise e).rks = s.rks := rfl
@[simp] theorem State.raise_mem (e : ErrCode) : (s.raise e).mem = s.mem := rfl
@[simp] theorem State.raise_port (e : ErrCode) : (s.raise e).port = s.port := rfl
@[simp] theorem State.raise_response (e : ErrCode) : (s.raise e).response = s.response := rfl
@[simp] theorem State.raise_params (e : ErrCode) : (s.raise e).params = s.params := rfl
@[simp] theorem State.raise_agenda (e : ErrCode) : (s.raise e).agenda = s.agenda := rfl
@[simp] theorem State.raise_resets (e : ErrCode) : (s.raise e).resets = s.resets := rfl
@[simp] theorem State.raise_errReads (e : ErrCode) : (s.raise e).errReads = s.errReads := rfl
@[simp] theorem State.raise_height (e : ErrCode) : (s.raise e).height = s.height := rfl
@[simp] theorem State.raise_width (e : ErrCode) : (s.raise e).width = s.width := rfl
@[simp] theorem State.raise_roundCount (e : ErrCode) : (s.raise e).roundCount = s.roundCount := rfl
@[simp] theorem State.raise_rmax (e : ErrCode) : (s.raise e).rmax = s.rmax := rfl
@[simp] theorem State.raise_pair (e : ErrCode) (slot : Nat) : (s.raise e).pair slot = s.pair slot := rfl
@[simp] theorem State.raise_img (e : ErrCode) (c y x : Nat) : (s.raise e).img c y x = s.img c y x := rfl
@[simp] theorem State.raise_pln (e : ErrCode) (q y x : Nat) : (s.raise e).pln q y x = s.pln q y x := rfl

/-! ### State.clearError -/

@[simp] theorem State.clearError_status : (s.clearError).status = s.status.clearError := rfl
@[simp] theorem State.clearError_dimH : (s.clearError).dimH = s.dimH := rfl
@[simp] theorem State.clearError_dimW : (s.clearError).dimW = s.dimW := rfl
@[simp] theorem State.clearError_rounds : (s.clearError).rounds = s.rounds := rfl
@[simp] theorem State.clearError_pend : (s.clearError).pend = s.pend := rfl
@[simp] theorem State.clearError_k1 : (s.clearError).k1 = s.k1 := rfl
@[simp] theorem State.clearError_k2 : (s.clearError).k2 = s.k2 := rfl
@[simp] theorem State.clearError_fk1 : (s.clearError).fk1 = s.fk1 := rfl
@[simp] theorem State.clearError_fk2 : (s.clearError).fk2 = s.fk2 := rfl
@[simp] theorem State.clearError_rks : (s.clearError).rks = s.rks := rfl
@[simp] theorem State.clearError_mem : (s.clearError).mem = s.mem := rfl
@[simp] theorem State.clearError_port : (s.clearError).port = s.port := rfl
@[simp] theorem State.clearError_response : (s.clearError).response = s.response := rfl
@[simp] theorem State.clearError_params : (s.clearError).params = s.params := rfl
@[simp] theorem State.clearError_agenda : (s.clearError).agenda = s.agenda := rfl
@[simp] theorem State.clearError_resets : (s.clearError).resets = s.resets := rfl
@[simp] theorem State.clearError_errReads : (s.clearError).errReads = s.errReads := rfl
@[simp] theorem State.clearError_height : (s.clearError).height = s.height := rfl
@[simp] theorem State.clearError_width : (s.clearError).width = s.width := rfl
@[simp] theorem State.clearError_roundCount : (s.clearError).roundCount = s.roundCount := rfl
@[simp] theorem State.clearError_rmax : (s.clearError).rmax = s.rmax := rfl
@[simp] theorem State.clearError_pair (slot : Nat) : (s.clearError).pair slot = s.pair slot := rfl
@[simp] theorem State.clearError_img (c y x : Nat) : (s.clearError).img c y x = s.img c y x := rfl
@[simp] theorem State.clearError_pln (q y x : Nat) : (s.clearError).pln q y x = s.pln q y x := rfl

/-! ### State.setImgWindow -/

@[simp] theorem State.setImgWindow_status (f : Nat → Nat → Nat → Byte) : (s.setImgWindow f).status = s.status := rfl
@[simp] theorem State.setImgWindow_dimH (f : Nat → Nat → Nat → Byte) : (s.setImgWindow f).dimH = s.dimH := rfl
@[simp] theorem State.setImgWindow_dimW (f : Nat → Nat → Nat → Byte) : (s.setImgWindow f).dimW = s.dimW := rfl
@[simp] theorem State.setImgWindow_rounds (f : Nat → Nat → Nat → Byte) : (s.setImgWindow f).rounds = s.rounds := rfl
@[simp] theorem State.setImgWindow_pend (f : Nat → Nat → Nat → Byte) : (s.setImgWindow f).pend = s.pend := rfl
@[simp] theorem State.setImgWindow_k1 (f : Nat → Nat → Nat → Byte) : (s.setImgWindow f).k1 = s.k1 := rfl
@[simp] theorem State.setImgWindow_k2 (f : Nat → Nat → Nat → Byte) : (s.setImgWindow f).k2 = s.k2 := rfl
@[simp] theorem State.setImgWindow_fk1 (f : Nat → Nat → Nat → Byte) : (s.setImgWindow f).fk1 = s.fk1 := rfl
@[simp] theorem State.setImgWindow_fk2 (f : Nat → Nat → Nat → Byte) : (s.setImgWindow f).fk2 = s.fk2 := rfl
@[simp] theorem State.setImgWindow_rks (f : Nat → Nat → Nat → Byte) : (s.setImgWindow f).rks = s.rks := rfl
theorem State.setImgWindow_mem (f : Nat → Nat → Nat → Byte) : (s.setImgWindow f).mem = s.mem.writeAll (windowCells imgAddr channels s.height s.width f) := rfl
@[simp] theorem State.setImgWindow_port (f : Nat → Nat → Nat → Byte) : (s.setImgWindow f).port = s.port := rfl
@[simp] theorem State.setImgWindow_response (f : Nat → Nat → Nat → Byte) : (s.setImgWindow f).response = s.response := rfl
@[simp] theorem State.setImgWindow_params (f : Nat → Nat → Nat → Byte) : (s.setImgWindow f).params = s.params := rfl
@[simp] theorem State.setImgWindow_agenda (f : Nat → Nat → Nat → Byte) : (s.setImgWindow f).agenda = s.agenda := rfl
@[simp] theorem State.setImgWindow_resets (f : Nat → Nat → Nat → Byte) : (s.setImgWindow f).resets = s.resets := rfl
@[simp] theorem State.setImgWindow_errReads (f : Nat → Nat → Nat → Byte) : (s.setImgWindow f).errReads = s.errReads := rfl
@[simp] theorem State.setImgWindow_height (f : Nat → Nat → Nat → Byte) : (s.setImgWindow f).height = s.height := rfl
@[simp] theorem State.setImgWindow_width (f : Nat → Nat → Nat → Byte) : (s.setImgWindow f).width = s.width := rfl
@[simp] theorem State.setImgWindow_roundCount (f : Nat → Nat → Nat → Byte) : (s.setImgWindow f).roundCount = s.roundCount := rfl
@[simp] theorem State.setImgWindow_rmax (f : Nat → Nat → Nat → Byte) : (s.setImgWindow f).rmax = s.rmax := rfl
@[simp] theorem State.setImgWindow_pair (f : Nat → Nat → Nat → Byte) (slot : Nat) : (s.setImgWindow f).pair slot = s.pair slot := rfl

/-! ### State.setPlnWindow -/

@[simp] theorem State.setPlnWindow_status (ps : List Nat) (f : Nat → Nat → Nat → Bool) : (s.setPlnWindow ps f).status = s.status := rfl
@[simp] theorem State.setPlnWindow_dimH (ps : List Nat) (f : Nat → Nat → Nat → Bool) : (s.setPlnWindow ps f).dimH = s.dimH := rfl
@[simp] theorem State.setPlnWindow_dimW (ps : List Nat) (f : Nat → Nat → Nat → Bool) : (s.setPlnWindow ps f).dimW = s.dimW := rfl
@[simp] theorem State.setPlnWindow_rounds (ps : List Nat) (f : Nat → Nat → Nat → Bool) : (s.setPlnWindow ps f).rounds = s.rounds := rfl
@[simp] theorem State.setPlnWindow_pend (ps : List Nat) (f : Nat → Nat → Nat → Bool) : (s.setPlnWindow ps f).pend = s.pend := rfl
@[simp] theorem State.setPlnWindow_k1 (ps : List Nat) (f : Nat → Nat → Nat → Bool) : (s.setPlnWindow ps f).k1 = s.k1 := rfl
@[simp] theorem State.setPlnWindow_k2 (ps : List Nat) (f : Nat → Nat → Nat → Bool) : (s.setPlnWindow ps f).k2 = s.k2 := rfl
@[simp] theorem State.setPlnWindow_fk1 (ps : List Nat) (f : Nat → Nat → Nat → Bool) : (s.setPlnWindow ps f).fk1 = s.fk1 := rfl
@[simp] theorem State.setPlnWindow_fk2 (ps : List Nat) (f : Nat → Nat → Nat → Bool) : (s.setPlnWindow ps f).fk2 = s.fk2 := rfl
@[simp] theorem State.setPlnWindow_rks (ps : List Nat) (f : Nat → Nat → Nat → Bool) : (s.setPlnWindow ps f).rks = s.rks := rfl
theorem State.setPlnWindow_mem (ps : List Nat) (f : Nat → Nat → Nat → Bool) : (s.setPlnWindow ps f).mem = s.mem.writeAll (windowCells plnAddr ps s.height s.width fun p y x => bitByte (f p y x)) := rfl
@[simp] theorem State.setPlnWindow_port (ps : List Nat) (f : Nat → Nat → Nat → Bool) : (s.setPlnWindow ps f).port = s.port := rfl
@[simp] theorem State.setPlnWindow_response (ps : List Nat) (f : Nat → Nat → Nat → Bool) : (s.setPlnWindow ps f).response = s.response := rfl
@[simp] theorem State.setPlnWindow_params (ps : List Nat) (f : Nat → Nat → Nat → Bool) : (s.setPlnWindow ps f).params = s.params := rfl
@[simp] theorem State.setPlnWindow_agenda (ps : List Nat) (f : Nat → Nat → Nat → Bool) : (s.setPlnWindow ps f).agenda = s.agenda := rfl
@[simp] theorem State.setPlnWindow_resets (ps : List Nat) (f : Nat → Nat → Nat → Bool) : (s.setPlnWindow ps f).resets = s.resets := rfl
@[simp] theorem State.setPlnWindow_errReads (ps : List Nat) (f : Nat → Nat → Nat → Bool) : (s.setPlnWindow ps f).errReads = s.errReads := rfl
@[simp] theorem State.setPlnWindow_height (ps : List Nat) (f : Nat → Nat → Nat → Bool) : (s.setPlnWindow ps f).height = s.height := rfl
@[simp] theorem State.setPlnWindow_width (ps : List Nat) (f : Nat → Nat → Nat → Bool) : (s.setPlnWindow ps f).width = s.width := rfl
@[simp] theorem State.setPlnWindow_roundCount (ps : List Nat) (f : Nat → Nat → Nat → Bool) : (s.setPlnWindow ps f).roundCount = s.roundCount := rfl
@[simp] theorem State.setPlnWindow_rmax (ps : List Nat) (f : Nat → Nat → Nat → Bool) : (s.setPlnWindow ps f).rmax = s.rmax := rfl
@[simp] theorem State.setPlnWindow_pair (ps : List Nat) (f : Nat → Nat → Nat → Bool) (slot : Nat) : (s.setPlnWindow ps f).pair slot = s.pair slot := rfl

/-! ### State.setPair -/

@[simp] theorem State.setPair_status (r : Nat) (q : KeyPair) : (s.setPair r q).status = s.status := rfl
@[simp] theorem State.setPair_dimH (r : Nat) (q : KeyPair) : (s.setPair r q).dimH = s.dimH := rfl
@[simp] theorem State.setPair_dimW (r : Nat) (q : KeyPair) : (s.setPair r q).dimW = s.dimW := rfl
@[simp] theorem State.setPair_rounds (r : Nat) (q : KeyPair) : (s.setPair r q).rounds = s.rounds := rfl
@[simp] theorem State.setPair_pend (r : Nat) (q : KeyPair) : (s.setPair r q).pend = s.pend := rfl
@[simp] theorem State.setPair_k1 (r : Nat) (q : KeyPair) : (s.setPair r q).k1 = s.k1 := rfl
@[simp] theorem State.setPair_k2 (r : Nat) (q : KeyPair) : (s.setPair r q).k2 = s.k2 := rfl
@[simp] theorem State.setPair_fk1 (r : Nat) (q : KeyPair) : (s.setPair r q).fk1 = s.fk1 := rfl
@[simp] theorem State.setPair_fk2 (r : Nat) (q : KeyPair) : (s.setPair r q).fk2 = s.fk2 := rfl
@[simp] theorem State.setPair_rks (r : Nat) (q : KeyPair) : (s.setPair r q).rks = s.rks.set r q := rfl
@[simp] theorem State.setPair_mem (r : Nat) (q : KeyPair) : (s.setPair r q).mem = s.mem := rfl
@[simp] theorem State.setPair_port (r : Nat) (q : KeyPair) : (s.setPair r q).port = s.port := rfl
@[simp] theorem State.setPair_response (r : Nat) (q : KeyPair) : (s.setPair r q).response = s.response := rfl
@[simp] theorem State.setPair_params (r : Nat) (q : KeyPair) : (s.setPair r q).params = s.params := rfl
@[simp] theorem State.setPair_agenda (r : Nat) (q : KeyPair) : (s.setPair r q).agenda = s.agenda := rfl
@[simp] theorem State.setPair_resets (r : Nat) (q : KeyPair) : (s.setPair r q).resets = s.resets := rfl
@[simp] theorem State.setPair_errReads (r : Nat) (q : KeyPair) : (s.setPair r q).errReads = s.errReads := rfl
@[simp] theorem State.setPair_height (r : Nat) (q : KeyPair) : (s.setPair r q).height = s.height := rfl
@[simp] theorem State.setPair_width (r : Nat) (q : KeyPair) : (s.setPair r q).width = s.width := rfl
@[simp] theorem State.setPair_roundCount (r : Nat) (q : KeyPair) : (s.setPair r q).roundCount = s.roundCount := rfl
@[simp] theorem State.setPair_rmax (r : Nat) (q : KeyPair) : (s.setPair r q).rmax = s.rmax := List.length_set
@[simp] theorem State.setPair_img (r : Nat) (q : KeyPair) (c y x : Nat) : (s.setPair r q).img c y x = s.img c y x := rfl
@[simp] theorem State.setPair_pln (r : Nat) (q : KeyPair) (g y x : Nat) : (s.setPair r q).pln g y x = s.pln g y x := rfl

/-! ### State.updateKeys -/

@[simp] theorem State.updateKeys_status : (s.updateKeys).status = s.status := by simp only [State.updateKeys]
@[simp] theorem State.updateKeys_dimH : (s.updateKeys).dimH = s.dimH := by simp only [State.updateKeys]
@[simp] theorem State.updateKeys_dimW : (s.updateKeys).dimW = s.dimW := by simp only [State.updateKeys]
@[simp] theorem State.updateKeys_rounds : (s.updateKeys).rounds = s.rounds := by simp only [State.updateKeys]
@[simp] theorem State.updateKeys_pend : (s.updateKeys).pend = s.pend := by simp only [State.updateKeys]
@[simp] theorem State.updateKeys_k1 : (s.updateKeys).k1 = s.k1.update := by simp only [State.updateKeys]
@[simp] theorem State.updateKeys_k2 : (s.updateKeys).k2 = s.k2.update := by simp only [State.updateKeys]
@[simp] theorem State.updateKeys_fk1 : (s.updateKeys).fk1 = s.fk1 := by simp only [State.updateKeys]
@[simp] theorem State.updateKeys_fk2 : (s.updateKeys).fk2 = s.fk2 := by simp only [State.updateKeys]
@[simp] theorem State.updateKeys_rks : (s.updateKeys).rks = s.rks := by simp only [State.updateKeys]
@[simp] theorem State.updateKeys_mem : (s.updateKeys).mem = s.mem := by simp only [State.updateKeys]
@[simp] theorem State.updateKeys_port : (s.updateKeys).port = s.port := by simp only [State.updateKeys]
@[simp] theorem State.updateKeys_response : (s.updateKeys).response = s.response := by simp only [State.updateKeys]
@[simp] theorem State.updateKeys_params : (s.updateKeys).params = s.params := by simp only [State.updateKeys]
@[simp] theorem State.updateKeys_agenda : (s.updateKeys).agenda = s.agenda := by simp only [State.updateKeys]
@[simp] theorem State.updateKeys_resets : (s.updateKeys).resets = s.resets := by simp only [State.updateKeys]
@[simp] theorem State.updateKeys_errReads : (s.updateKeys).errReads = s.errReads := by simp only [State.updateKeys]
@[simp] theorem State.updateKeys_height : (s.updateKeys).height = s.height := by simp only [State.updateKeys, State.height]
@[simp] theorem State.updateKeys_width : (s.updateKeys).width = s.width := by simp only [State.updateKeys, State.width]
@[simp] theorem State.updateKeys_roundCount : (s.updateKeys).roundCount = s.roundCount := by simp only [State.updateKeys, State.roundCount]
@[simp] theorem State.updateKeys_rmax : (s.updateKeys).rmax = s.rmax := by simp only [State.updateKeys, State.rmax]
@[simp] theorem State.updateKeys_pair (slot : Nat) : (s.updateKeys).pair slot = s.pair slot := by simp only [State.updateKeys, State.pair]
@[simp] theorem State.updateKeys_img (c y x : Nat) : (s.updateKeys).img c y x = s.img c y x := by simp only [State.updateKeys, State.img]
@[simp] theorem State.updateKeys_pln (q y x : Nat) : (s.updateKeys).pln q y x = s.pln q y x := by simp only [State.updateKeys, State.pln]

/-! ### State.storePair -/

@[simp] theorem State.storePair_status (r : Nat) : (s.storePair r).status = s.status := rfl
@[simp] theorem State.storePair_dimH (r : Nat) : (s.storePair r).dimH = s.dimH := rfl
@[simp] theorem State.storePair_dimW (r : Nat) : (s.storePair r).dimW = s.dimW := rfl
@[simp] theorem State.storePair_rounds (r : Nat) : (s.storePair r).rounds = s.rounds := rfl
@[simp] theorem State.storePair_pend (r : Nat) : (s.storePair r).pend = s.pend := rfl
@[simp] theorem State.storePair_k1 (r : Nat) : (s.storePair r).k1 = s.k1 := rfl
@[simp] theorem State.storePair_k2 (r : Nat) : (s.storePair r).k2 = s.k2 := rfl
@[simp] theorem State.storePair_fk1 (r : Nat) : (s.storePair r).fk1 = s.fk1 := rfl
@[simp] theorem State.storePair_fk2 (r : Nat) : (s.storePair r).fk2 = s.fk2 := rfl
@[simp] theorem State.storePair_rks (r : Nat) : (s.storePair r).rks = s.rks.set r { k1 := s.k1, k2 := s.k2 } := rfl
@[simp] theorem State.storePair_mem (r : Nat) : (s.storePair r).mem = s.mem := rfl
@[simp] theorem State.storePair_port (r : Nat) : (s.storePair r).port = s.port := rfl
@[simp] theorem State.storePair_response (r : Nat) : (s.storePair r).response = s.response := rfl
@[simp] theorem State.storePair_params (r : Nat) : (s.storePair r).params = s.params := rfl
@[simp] theorem State.storePair_agenda (r : Nat) : (s.storePair r).agenda = s.agenda := rfl
@[simp] theorem State.storePair_resets (r : Nat) : (s.storePair r).resets = s.resets := rfl
@[simp] theorem State.storePair_errReads (r : Nat) : (s.storePair r).errReads = s.errReads := rfl
@[simp] theorem State.storePair_height (r : Nat) : (s.storePair r).height = s.height := rfl
@[simp] theorem State.storePair_width (r : Nat) : (s.storePair r).width = s.width := rfl
@[simp] theorem State.storePair_roundCount (r : Nat) : (s.storePair r).roundCount = s.roundCount := rfl
@[simp] theorem State.storePair_rmax (r : Nat) : (s.storePair r).rmax = s.rmax := List.length_set
@[simp] theorem State.storePair_img (r : Nat) (c y x : Nat) : (s.storePair r).img c y x = s.img c y x := rfl
@[simp] theorem State.storePair_pln (r : Nat) (q y x : Nat) : (s.storePair r).pln q y x = s.pln q y x := rfl

/-! ### State.loadPair -/

@[simp] theorem State.loadPair_status (r : Nat) : (s.loadPair r).status = s.status := rfl
@[simp] theorem State.loadPair_dimH (r : Nat) : (s.loadPair r).dimH = s.dimH := rfl
@[simp] theorem State.loadPair_dimW (r : Nat) : (s.loadPair r).dimW = s.dimW := rfl
@[simp] theorem State.loadPair_rounds (r : Nat) : (s.loadPair r).rounds = s.rounds := rfl
@[simp] theorem State.loadPair_pend (r : Nat) : (s.loadPair r).pend = s.pend := rfl
@[simp] theorem State.loadPair_k1 (r : Nat) : (s.loadPair r).k1 = (s.pair r).k1 := rfl
@[simp] theorem State.loadPair_k2 (r : Nat) : (s.loadPair r).k2 = (s.pair r).k2 := rfl
@[simp] theorem State.loadPair_fk1 (r : Nat) : (s.loadPair r).fk1 = s.fk1 := rfl
@[simp] theorem State.loadPair_fk2 (r : Nat) : (s.loadPair r).fk2 = s.fk2 := rfl
@[simp] theorem State.loadPair_rks (r : Nat) : (s.loadPair r).rks = s.rks := rfl
@[simp] theorem State.loadPair_mem (r : Nat) : (s.loadPair r).mem = s.mem := rfl
@[simp] theorem State.loadPair_port (r : Nat) : (s.loadPair r).port = s.port := rfl
@[simp] theorem State.loadPair_response (r : Nat) : (s.loadPair r).response = s.response := rfl
@[simp] theorem State.loadPair_params (r : Nat) : (s.loadPair r).params = s.params := rfl
@[simp] theorem State.loadPair_agenda (r : Nat) : (s.loadPair r).agenda = s.agenda := rfl
@[simp] theorem State.loadPair_resets (r : Nat) : (s.loadPair r).resets = s.resets := rfl
@[simp] theorem State.loadPair_errReads (r : Nat) : (s.loadPair r).errReads = s.errReads := rfl
@[simp] theorem State.loadPair_height (r : Nat) : (s.loadPair r).height = s.height := rfl
@[simp] theorem State.loadPair_width (r : Nat) : (s.loadPair r).width = s.width := rfl
@[simp] theorem State.loadPair_roundCount (r : Nat) : (s.loadPair r).roundCount = s.roundCount := rfl
@[simp] theorem State.loadPair_rmax (r : Nat) : (s.loadPair r).rmax = s.rmax := rfl
@[simp] theorem State.loadPair_pair (r : Nat) (slot : Nat) : (s.loadPair r).pair slot = s.pair slot := rfl
@[simp] theorem State.loadPair_img (r : Nat) (c y x : Nat) : (s.loadPair r).img c y x = s.img c y x := rfl
@[simp] theorem State.loadPair_pln (r : Nat) (q y x : Nat) : (s.loadPair r).pln q y x = s.pln q y x := rfl

/-! ### State.finalPair -/

@[simp] theorem State.finalPair_status : (s.finalPair).status = s.status := rfl
@[simp] theorem State.finalPair_dimH : (s.finalPair).dimH = s.dimH := rfl
@[simp] theorem State.finalPair_dimW : (s.finalPair).dimW = s.dimW := rfl
@[simp] theorem State.finalPair_rounds : (s.finalPair).rounds = s.rounds := rfl
@[simp] theorem State.finalPair_pend : (s.finalPair).pend = s.pend := rfl
@[simp] theorem State.finalPair_k1 : (s.finalPair).k1 = s.k1 := rfl
@[simp] theorem State.finalPair_k2 : (s.finalPair).k2 = s.k2 := rfl
@[simp] theorem State.finalPair_fk1 : (s.finalPair).fk1 = s.k1 := rfl
@[simp] theorem State.finalPair_fk2 : (s.finalPair).fk2 = s.k2 := rfl
@[simp] theorem State.finalPair_rks : (s.finalPair).rks = s.rks := rfl
@[simp] theorem State.finalPair_mem : (s.finalPair).mem = s.mem := rfl
@[simp] theorem State.finalPair_port : (s.finalPair).port = s.port := rfl
@[simp] theorem State.finalPair_response : (s.finalPair).response = s.response := rfl
@[simp] theorem State.finalPair_params : (s.finalPair).params = s.params := rfl
@[simp] theorem State.finalPair_agenda : (s.finalPair).agenda = s.agenda := rfl
@[simp] theorem State.finalPair_resets : (s.finalPair).resets = s.resets := rfl
@[simp] theorem State.finalPair_errReads : (s.finalPair).errReads = s.errReads := rfl
@[simp] theorem State.finalPair_height : (s.finalPair).height = s.height := rfl
@[simp] theorem State.finalPair_width : (s.finalPair).width = s.width := rfl
@[simp] theorem State.finalPair_roundCount : (s.finalPair).roundCount = s.roundCount := rfl
@[simp] theorem State.finalPair_rmax : (s.finalPair).rmax = s.rmax := rfl
@[simp] theorem State.finalPair_pair (slot : Nat) : (s.finalPair).pair slot = s.pair slot := rfl
@[simp] theorem State.finalPair_img (c y x : Nat) : (s.finalPair).img c y x = s.img c y x := rfl
@[simp] theorem State.finalPair_pln (q y x : Nat) : (s.finalPair).pln q y x = s.pln q y x := rfl

/-! ### State.rowPass -/

@[simp] theorem State.rowPass_status (dir : Dir) : (s.rowPass dir).status = s.status := by simp only [State.rowPass]; rfl
@[simp] theorem State.rowPass_dimH (dir : Dir) : (s.rowPass dir).dimH = s.dimH := by simp only [State.rowPass]; rfl
@[simp] theorem State.rowPass_dimW (dir : Dir) : (s.rowPass dir).dimW = s.dimW := by simp only [State.rowPass]; rfl
@[simp] theorem State.rowPass_rounds (dir : Dir) : (s.rowPass dir).rounds = s.rounds := by simp only [State.rowPass]; rfl
@[simp] theorem State.rowPass_pend (dir : Dir) : (s.rowPass dir).pend = s.pend := by simp only [State.rowPass]; rfl
@[simp] theorem State.rowPass_k1 (dir : Dir) : (s.rowPass dir).k1 = s.k1 := by simp only [State.rowPass]; rfl
@[simp] theorem State.rowPass_k2 (dir : Dir) : (s.rowPass dir).k2 = s.k2 := by simp only [State.rowPass]; rfl
@[simp] theorem State.rowPass_fk1 (dir : Dir) : (s.rowPass dir).fk1 = s.fk1 := by simp only [State.rowPass]; rfl
@[simp] theorem State.rowPass_fk2 (dir : Dir) : (s.rowPass dir).fk2 = s.fk2 := by simp only [State.rowPass]; rfl
@[simp] theorem State.rowPass_rks (dir : Dir) : (s.rowPass dir).rks = s.rks := by simp only [State.rowPass]; rfl
@[simp] theorem State.rowPass_port (dir : Dir) : (s.rowPass dir).port = s.port := by simp only [State.rowPass]; rfl
@[simp] theorem State.rowPass_response (dir : Dir) : (s.rowPass dir).response = s.response := by simp only [State.rowPass]; rfl
@[simp] theorem State.rowPass_params (dir : Dir) : (s.rowPass dir).params = s.params := by simp only [State.rowPass]; rfl
@[simp] theorem State.rowPass_agenda (dir : Dir) : (s.rowPass dir).agenda = s.agenda := by simp only [State.rowPass]; rfl
@[simp] theorem State.rowPass_resets (dir : Dir) : (s.rowPass dir).resets = s.resets := by simp only [State.rowPass]; rfl
@[simp] theorem State.rowPass_errReads (dir : Dir) : (s.rowPass dir).errReads = s.errReads := by simp only [State.rowPass]; rfl
@[simp] theorem State.rowPass_height (dir : Dir) : (s.rowPass dir).height = s.height := by simp only [State.rowPass]; rfl
@[simp] theorem State.rowPass_width (dir : Dir) : (s.rowPass dir).width = s.width := by simp only [State.rowPass]; rfl
@[simp] theorem State.rowPass_roundCount (dir : Dir) : (s.rowPass dir).roundCount = s.roundCount := by simp only [State.rowPass]; rfl
@[simp] theorem State.rowPass_rmax (dir : Dir) : (s.rowPass dir).rmax = s.rmax := by simp only [State.rowPass]; rfl
@[simp] theorem State.rowPass_pair (dir : Dir) (slot : Nat) : (s.rowPass dir).pair slot = s.pair slot := by simp only [State.rowPass]; rfl

/-! ### State.colPass -/

@[simp] theorem State.colPass_status (dir : Dir) : (s.colPass dir).status = s.status := by simp only [State.colPass]; rfl
@[simp] theorem State.colPass_dimH (dir : Dir) : (s.colPass dir).dimH = s.dimH := by simp only [State.colPass]; rfl
@[simp] theorem State.colPass_dimW (dir : Dir) : (s.colPass dir).dimW = s.dimW := by simp only [State.colPass]; rfl
@[simp] theorem State.colPass_rounds (dir : Dir) : (s.colPass dir).rounds = s.rounds := by simp only [State.colPass]; rfl
@[simp] theorem State.colPass_pend (dir : Dir) : (s.colPass dir).pend = s.pend := by simp only [State.colPass]; rfl
@[simp] theorem State.colPass_k1 (dir : Dir) : (s.colPass dir).k1 = s.k1 := by simp only [State.colPass]; rfl
@[simp] theorem State.colPass_k2 (dir : Dir) : (s.colPass dir).k2 = s.k2 := by simp only [State.colPass]; rfl
@[simp] theorem State.colPass_fk1 (dir : Dir) : (s.colPass dir).fk1 = s.fk1 := by simp only [State.colPass]; rfl
@[simp] theorem State.colPass_fk2 (dir : Dir) : (s.colPass dir).fk2 = s.fk2 := by simp only [State.colPass]; rfl
@[simp] theorem State.colPass_rks (dir : Dir) : (s.colPass dir).rks = s.rks := by simp only [State.colPass]; rfl
@[simp] theorem State.colPass_port (dir : Dir) : (s.colPass dir).port = s.port := by simp only [State.colPass]; rfl
@[simp] theorem State.colPass_response (dir : Dir) : (s.colPass dir).response = s.response := by simp only [State.colPass]; rfl
@[simp] theorem State.colPass_params (dir : Dir) : (s.colPass dir).params = s.params := by simp only [State.colPass]; rfl
@[simp] theorem State.colPass_agenda (dir : Dir) : (s.colPass dir).agenda = s.agenda := by simp only [State.colPass]; rfl
@[simp] theorem State.colPass_resets (dir : Dir) : (s.colPass dir).resets = s.resets := by simp only [State.colPass]; rfl
@[simp] theorem State.colPass_errReads (dir : Dir) : (s.colPass dir).errReads = s.errReads := by simp only [State.colPass]; rfl
@[simp] theorem State.colPass_height (dir : Dir) : (s.colPass dir).height = s.height := by simp only [State.colPass]; rfl
@[simp] theorem State.colPass_width (dir : Dir) : (s.colPass dir).width = s.width := by simp only [State.colPass]; rfl
@[simp] theorem State.colPass_roundCount (dir : Dir) : (s.colPass dir).roundCount = s.roundCount := by simp only [State.colPass]; rfl
@[simp] theorem State.colPass_rmax (dir : Dir) : (s.colPass dir).rmax = s.rmax := by simp only [State.colPass]; rfl
@[simp] theorem State.colPass_pair (dir : Dir) (slot : Nat) : (s.colPass dir).pair slot = s.pair slot := by simp only [State.colPass]; rfl

/-! ### State.decompose -/

@[simp] theorem State.decompose_status : (s.decompose).status = s.status := by simp only [State.decompose]; rfl
@[simp] theorem State.decompose_dimH : (s.decompose).dimH = s.dimH := by simp only [State.decompose]; rfl
@[simp] theorem State.decompose_dimW : (s.decompose).dimW = s.dimW := by simp only [State.decompose]; rfl
@[simp] theorem State.decompose_rounds : (s.decompose).rounds = s.rounds := by simp only [State.decompose]; rfl
@[simp] theorem State.decompose_pend : (s.decompose).pend = s.pend := by simp only [State.decompose]; rfl
@[simp] theorem State.decompose_k1 : (s.decompose).k1 = s.k1 := by simp only [State.decompose]; rfl
@[simp] theorem State.decompose_k2 : (s.decompose).k2 = s.k2 := by simp only [State.decompose]; rfl
@[simp] theorem State.decompose_fk1 : (s.decompose).fk1 = s.fk1 := by simp only [State.decompose]; rfl
@[simp] theorem State.decompose_fk2 : (s.decompose).fk2 = s.fk2 := by simp only [State.decompose]; rfl
@[simp] theorem State.decompose_rks : (s.decompose).rks = s.rks := by simp only [State.decompose]; rfl
@[simp] theorem State.decompose_port : (s.decompose).port = s.port := by simp only [State.decompose]; rfl
@[simp] theorem State.decompose_response : (s.decompose).response = s.response := by simp only [State.decompose]; rfl
@[simp] theorem State.decompose_params : (s.decompose).params = s.params := by simp only [State.decompose]; rfl
@[simp] theorem State.decompose_agenda : (s.decompose).agenda = s.agenda := by simp only [State.decompose]; rfl
@[simp] theorem State.decompose_resets : (s.decompose).resets = s.resets := by simp only [State.decompose]; rfl
@[simp] theorem State.decompose_errReads : (s.decompose).errReads = s.errReads := by simp only [State.decompose]; rfl
@[simp] theorem State.decompose_height : (s.decompose).height = s.height := by simp only [State.decompose]; rfl
@[simp] theorem State.decompose_width : (s.decompose).width = s.width := by simp only [State.decompose]; rfl
@[simp] theorem State.decompose_roundCount : (s.decompose).roundCount = s.roundCount := by simp only [State.decompose]; rfl
@[simp] theorem State.decompose_rmax : (s.decompose).rmax = s.rmax := by simp only [State.decompose]; rfl
@[simp] theorem State.decompose_pair (slot : Nat) : (s.decompose).pair slot = s.pair slot := by simp only [State.decompose]; rfl

/-! ### State.recompose -/

@[simp] theorem State.recompose_status : (s.recompose).status = s.status := by simp only [State.recompose]; rfl
@[simp] theorem State.recompose_dimH : (s.recompose).dimH = s.dimH := by simp only [State.recompose]; rfl
@[simp] theorem State.recompose_dimW : (s.recompose).dimW = s.dimW := by simp only [State.recompose]; rfl
@[simp] theorem State.recompose_rounds : (s.recompose).rounds = s.rounds := by simp only [State.recompose]; rfl
@[simp] theorem State.recompose_pend : (s.recompose).pend = s.pend := by simp only [State.recompose]; rfl
@[simp] theorem State.recompose_k1 : (s.recompose).k1 = s.k1 := by simp only [State.recompose]; rfl
@[simp] theorem State.recompose_k2 : (s.recompose).k2 = s.k2 := by simp only [State.recompose]; rfl
@[simp] theorem State.recompose_fk1 : (s.recompose).fk1 = s.fk1 := by simp only [State.recompose]; rfl
@[simp] theorem State.recompose_fk2 : (s.recompose).fk2 = s.fk2 := by simp only [State.recompose]; rfl
@[simp] theorem State.recompose_rks : (s.recompose).rks = s.rks := by simp only [State.recompose]; rfl
@[simp] theorem State.recompose_port : (s.recompose).port = s.port := by simp only [State.recompose]; rfl
@[simp] theorem State.recompose_response : (s.recompose).response = s.response := by simp only [State.recompose]; rfl
@[simp] theorem State.recompose_params : (s.recompose).params = s.params := by simp only [State.recompose]; rfl
@[simp] theorem State.recompose_agenda : (s.recompose).agenda = s.agenda := by simp only [State.recompose]; rfl
@[simp] theorem State.recompose_resets : (s.recompose).resets = s.resets := by simp only [State.recompose]; rfl
@[simp] theorem State.recompose_errReads : (s.recompose).errReads = s.errReads := by simp only [State.recompose]; rfl
@[simp] theorem State.recompose_height : (s.recompose).height = s.height := by simp only [State.recompose]; rfl
@[simp] theorem State.recompose_width : (s.recompose).width = s.width := by simp only [State.recompose]; rfl
@[simp] theorem State.recompose_roundCount : (s.recompose).roundCount = s.roundCount := by simp only [State.recompose]; rfl
@[simp] theorem State.recompose_rmax : (s.recompose).rmax = s.rmax := by simp only [State.recompose]; rfl
@[simp] theorem State.recompose_pair (slot : Nat) : (s.recompose).pair slot = s.pair slot := by simp only [State.recompose]; rfl

/-! ### State.rotatePlane -/

@[simp] theorem State.rotatePlane_status (p : Nat) (steps : Int) : (s.rotatePlane p steps).status = s.status := by simp only [State.rotatePlane]; rfl
@[simp] theorem State.rotatePlane_dimH (p : Nat) (steps : Int) : (s.rotatePlane p steps).dimH = s.dimH := by simp only [State.rotatePlane]; rfl
@[simp] theorem State.rotatePlane_dimW (p : Nat) (steps : Int) : (s.rotatePlane p steps).dimW = s.dimW := by simp only [State.rotatePlane]; rfl
@[simp] theorem State.rotatePlane_rounds (p : Nat) (steps : Int) : (s.rotatePlane p steps).rounds = s.rounds := by simp only [State.rotatePlane]; rfl
@[simp] theorem State.rotatePlane_pend (p : Nat) (steps : Int) : (s.rotatePlane p steps).pend = s.pend := by simp only [State.rotatePlane]; rfl
@[simp] theorem State.rotatePlane_k1 (p : Nat) (steps : Int) : (s.rotatePlane p steps).k1 = s.k1 := by simp only [State.rotatePlane]; rfl
@[simp] theorem State.rotatePlane_k2 (p : Nat) (steps : Int) : (s.rotatePlane p steps).k2 = s.k2 := by simp only [State.rotatePlane]; rfl
@[simp] theorem State.rotatePlane_fk1 (p : Nat) (steps : Int) : (s.rotatePlane p steps).fk1 = s.fk1 := by simp only [State.rotatePlane]; rfl
@[simp] theorem State.rotatePlane_fk2 (p : Nat) (steps : Int) : (s.rotatePlane p steps).fk2 = s.fk2 := by simp only [State.rotatePlane]; rfl
@[simp] theorem State.rotatePlane_rks (p : Nat) (steps : Int) : (s.rotatePlane p steps).rks = s.rks := by simp only [State.rotatePlane]; rfl
@[simp] theorem State.rotatePlane_port (p : Nat) (steps : Int) : (s.rotatePlane p steps).port = s.port := by simp only [State.rotatePlane]; rfl
@[simp] theorem State.rotatePlane_response (p : Nat) (steps : Int) : (s.rotatePlane p steps).response = s.response := by simp only [State.rotatePlane]; rfl
@[simp] theorem State.rotatePlane_params (p : Nat) (steps : Int) : (s.rotatePlane p steps).params = s.params := by simp only [State.rotatePlane]; rfl
@[simp] theorem State.rotatePlane_agenda (p : Nat) (steps : Int) : (s.rotatePlane p steps).agenda = s.agenda := by simp only [State.rotatePlane]; rfl
@[simp] theorem State.rotatePlane_resets (p : Nat) (steps : Int) : (s.rotatePlane p steps).resets = s.resets := by simp only [State.rotatePlane]; rfl
@[simp] theorem State.rotatePlane_errReads (p : Nat) (steps : Int) : (s.rotatePlane p steps).errReads = s.errReads := by simp only [State.rotatePlane]; rfl
@[simp] theorem State.rotatePlane_height (p : Nat) (steps : Int) : (s.rotatePlane p steps).height = s.height := by simp only [State.rotatePlane]; rfl
@[simp] theorem State.rotatePlane_width (p : Nat) (steps : Int) : (s.rotatePlane p steps).width = s.width := by simp only [State.rotatePlane]; rfl
@[simp] theorem State.rotatePlane_roundCount (p : Nat) (steps : Int) : (s.rotatePlane p steps).roundCount = s.roundCount := by simp only [State.rotatePlane]; rfl
@[simp] theorem State.rotatePlane_rmax (p : Nat) (steps : Int) : (s.rotatePlane p steps).rmax = s.rmax := by simp only [State.rotatePlane]; rfl
@[simp] theorem State.rotatePlane_pair (p : Nat) (steps : Int) (slot : Nat) : (s.rotatePlane p steps).pair slot = s.pair slot := by simp only [State.rotatePlane]; rfl

/-! ### State.rotateAll -/

@[simp] theorem State.rotateAll_status (dir : Dir) : (s.rotateAll dir).status = s.status := by simp only [State.rotateAll]; rfl
@[simp] theorem State.rotateAll_dimH (dir : Dir) : (s.rotateAll dir).dimH = s.dimH := by simp only [State.rotateAll]; rfl
@[simp] theorem State.rotateAll_dimW (dir : Dir) : (s.rotateAll dir).dimW = s.dimW := by simp only [State.rotateAll]; rfl
@[simp] theorem State.rotateAll_rounds (dir : Dir) : (s.rotateAll dir).rounds = s.rounds := by simp only [State.rotateAll]; rfl
@[simp] theorem State.rotateAll_pend (dir : Dir) : (s.rotateAll dir).pend = s.pend := by simp only [State.rotateAll]; rfl
@[simp] theorem State.rotateAll_k1 (dir : Dir) : (s.rotateAll dir).k1 = s.k1 := by simp only [State.rotateAll]; rfl
@[simp] theorem State.rotateAll_k2 (dir : Dir) : (s.rotateAll dir).k2 = s.k2 := by simp only [State.rotateAll]; rfl
@[simp] theorem State.rotateAll_fk1 (dir : Dir) : (s.rotateAll dir).fk1 = s.fk1 := by simp only [State.rotateAll]; rfl
@[simp] theorem State.rotateAll_fk2 (dir : Dir) : (s.rotateAll dir).fk2 = s.fk2 := by simp only [State.rotateAll]; rfl
@[simp] theorem State.rotateAll_rks (dir : Dir) : (s.rotateAll dir).rks = s.rks := by simp only [State.rotateAll]; rfl
@[simp] theorem State.rotateAll_port (dir : Dir) : (s.rotateAll dir).port = s.port := by simp only [State.rotateAll]; rfl
@[simp] theorem State.rotateAll_response (dir : Dir) : (s.rotateAll dir).response = s.response := by simp only [State.rotateAll]; rfl
@[simp] theorem State.rotateAll_params (dir : Dir) : (s.rotateAll dir).params = s.params := by simp only [State.rotateAll]; rfl
@[simp] theorem State.rotateAll_agenda (dir : Dir) : (s.rotateAll dir).agenda = s.agenda := by simp only [State.rotateAll]; rfl
@[simp] theorem State.rotateAll_resets (dir : Dir) : (s.rotateAll dir).resets = s.resets := by simp only [State.rotateAll]; rfl
@[simp] theorem State.rotateAll_errReads (dir : Dir) : (s.rotateAll dir).errReads = s.errReads := by simp only [State.rotateAll]; rfl
@[simp] theorem State.rotateAll_height (dir : Dir) : (s.rotateAll dir).height = s.height := by simp only [State.rotateAll]; rfl
@[simp] theorem State.rotateAll_width (dir : Dir) : (s.rotateAll dir).width = s.width := by simp only [State.rotateAll]; rfl
@[simp] theorem State.rotateAll_roundCount (dir : Dir) : (s.rotateAll dir).roundCount = s.roundCount := by simp only [State.rotateAll]; rfl
@[simp] theorem State.rotateAll_rmax (dir : Dir) : (s.rotateAll dir).rmax = s.rmax := by simp only [State.rotateAll]; rfl
@[simp] theorem State.rotateAll_pair (dir : Dir) (slot : Nat) : (s.rotateAll dir).pair slot = s.pair slot := by simp only [State.rotateAll]; rfl

/-! ### State.shuffle -/

@[simp] theorem State.shuffle_status : (s.shuffle).status = s.status := by simp only [State.shuffle]; rfl
@[simp] theorem State.shuffle_dimH : (s.shuffle).dimH = s.dimH := by simp only [State.shuffle]; rfl
@[simp] theorem State.shuffle_dimW : (s.shuffle).dimW = s.dimW := by simp only [State.shuffle]; rfl
@[simp] theorem State.shuffle_rounds : (s.shuffle).rounds = s.rounds := by simp only [State.shuffle]; rfl
@[simp] theorem State.shuffle_pend : (s.shuffle).pend = s.pend := by simp only [State.shuffle]; rfl
@[simp] theorem State.shuffle_k1 : (s.shuffle).k1 = s.k1 := by simp only [State.shuffle]; rfl
@[simp] theorem State.shuffle_k2 : (s.shuffle).k2 = s.k2 := by simp only [State.shuffle]; rfl
@[simp] theorem State.shuffle_fk1 : (s.shuffle).fk1 = s.fk1 := by simp only [State.shuffle]; rfl
@[simp] theorem State.shuffle_fk2 : (s.shuffle).fk2 = s.fk2 := by simp only [State.shuffle]; rfl
@[simp] theorem State.shuffle_rks : (s.shuffle).rks = s.rks := by simp only [State.shuffle]; rfl
@[simp] theorem State.shuffle_port : (s.shuffle).port = s.port := by simp only [State.shuffle]; rfl
@[simp] theorem State.shuffle_response : (s.shuffle).response = s.response := by simp only [State.shuffle]; rfl
@[simp] theorem State.shuffle_params : (s.shuffle).params = s.params := by simp only [State.shuffle]; rfl
@[simp] theorem State.shuffle_agenda : (s.shuffle).agenda = s.agenda := by simp only [State.shuffle]; rfl
@[simp] theorem State.shuffle_resets : (s.shuffle).resets = s.resets := by simp only [State.shuffle]; rfl
@[simp] theorem State.shuffle_errReads : (s.shuffle).errReads = s.errReads := by simp only [State.shuffle]; rfl
@[simp] theorem State.shuffle_height : (s.shuffle).height = s.height := by simp only [State.shuffle]; rfl
@[simp] theorem State.shuffle_width : (s.shuffle).width = s.width := by simp only [State.shuffle]; rfl
@[simp] theorem State.shuffle_roundCount : (s.shuffle).roundCount = s.roundCount := by simp only [State.shuffle]; rfl
@[simp] theorem State.shuffle_rmax : (s.shuffle).rmax = s.rmax := by simp only [State.shuffle]; rfl
@[simp] theorem State.shuffle_pair (slot : Nat) : (s.shuffle).pair slot = s.pair slot := by simp only [State.shuffle]; rfl

end Sys2Proof.Machine
end

