-- ==== Sys2Proof/Laws/Step.lean ====
section
/-! SUPPORT. Everything one step can do, and that completing a transaction does not depend on the agenda. -/

namespace Sys2Proof.Machine

/-- A CMD write has the same effect whatever turns are to come. -/
theorem State.writeCmd_agenda (s : State) (rest : List Turn) (w : Word) :
    State.writeCmd { s with agenda := rest } w = { s.writeCmd w with agenda := rest } := by
  by_cases h : s.status.err = true ∧ w ≠ errclrWord
  · exact (if_pos h).trans (by rw [State.writeCmd, if_pos h])
  · exact (if_neg h).trans (by rw [State.writeCmd, if_neg h]; rfl)

/-- An element write has the same effect whatever turns are to come. -/
theorem State.writeElement_agenda (s : State) (rest : List Turn) (e : Element) (w : Word) :
    State.writeElement { s with agenda := rest } e w = { s.writeElement e w with agenda := rest } := by
  cases e with
  | csr n =>
    simp only [State.writeElement, State.writeCsr, State.writeCmd_agenda]
    split <;> rfl
  | keyBit slot i =>
    simp only [State.writeElement, State.setKey]
    split <;> rfl
  | img c y x => rfl
  | pln p y x => rfl

/-- A transaction completes the same way whatever turns are to come. -/
theorem State.transact_agenda (s : State) (rest : List Turn) (t : Transaction) :
    State.transact { s with agenda := rest } t = { s.transact t with agenda := rest } := by
  have he : ∀ a, State.element { s with agenda := rest } a = s.element a := fun _ => rfl
  cases t with
  | read a =>
    simp only [State.transact, he]
    cases s.element a with
    | none => rfl
    | some e => cases e <;> rfl
  | write a w =>
    simp only [State.transact, he, State.writeElement_agenda]
    cases s.element a <;> rfl

/-- Everything a grant can do: the outstanding transaction completes, or nothing happens. -/
theorem State.grant_cases (s : State) :
    (∃ tr, s.port = some tr ∧ (s.status.busy = false ∨ tr.isCsrRead = true) ∧ s.grant = s.transact tr) ∨ s.grant = s := by
  simp only [State.grant]
  split
  · exact .inr rfl
  · rename_i tr hp
    by_cases hh : s.holds tr = true
    · exact .inr (if_pos hh)
    · refine .inl ⟨tr, hp, ?_, if_neg hh⟩
      simp only [State.holds] at hh
      cases hb : s.status.busy <;> simp_all

/-- What a step that answers a next state did, `u` being the state with the agenda the step leaves: an
Engine step, a completed transaction, a new request, a reset, or nothing. -/
theorem step_cases {s t : State} (h : step s = .next t) :
    ∃ rest, ∃ u : State, u = { s with agenda := rest } ∧
      ((∃ w, u.fetch = some w ∧ u.engineStep w = .next t) ∨
        (∃ tr, u.port = some tr ∧ (u.status.busy = false ∨ tr.isCsrRead = true) ∧ t = u.transact tr) ∨
        (∃ tr, u.port = none ∧ t = { u with port := some tr }) ∨
        (s.agenda = .reset :: rest ∧ t = u.resetEdge) ∨
        t = u) := by
  have settle_cases : ∀ v : State, v.settle = .next t →
      (∃ w, v.fetch = some w ∧ v.engineStep w = .next t) ∨
      (∃ tr, v.port = some tr ∧ v.status.busy = false ∧ t = v.transact tr) ∨ t = v := by
    intro v hv
    simp only [State.settle] at hv
    split at hv
    · exact .inl ⟨_, ‹_›, hv⟩
    · rename_i hf
      have hb : v.status.busy = false := by
        simp only [State.fetch] at hf
        split at hf
        · cases hf
        · simpa using ‹¬ v.status.busy = true›
      split at hv
      · exact .inr (.inl ⟨_, ‹_›, hb, (Host.Outcome.next.inj hv).symm⟩)
      · exact .inr (.inr (Host.Outcome.next.inj hv).symm)
  simp only [step, State.advance] at h
  split at h
  · refine ⟨s.agenda, s, rfl, ?_⟩
    obtain h | ⟨tr, hp, hb, ht⟩ | h := settle_cases s h
    · exact .inl h
    · exact .inr (.inl ⟨tr, hp, .inl hb, ht⟩)
    · exact .inr (.inr (.inr (.inr h)))
  · rename_i turn rest ha
    split at h
    · refine ⟨s.agenda, s, rfl, ?_⟩
      obtain h | ⟨tr, hp, hb, ht⟩ | h := settle_cases s h
      · exact .inl h
      · exact .inr (.inl ⟨tr, hp, .inl hb, ht⟩)
      · exact .inr (.inr (.inr (.inr h)))
    · by_cases hw : ∃ early, turn = .wait early ∨ turn = .waited early
      · obtain ⟨early, rfl | rfl⟩ := hw
        · simp only [State.takeTurn] at h
          split at h
          · exact ⟨.waited early :: rest, _, rfl, .inr (.inr (.inl ⟨_, ‹_›, (Host.Outcome.next.inj h).symm⟩))⟩
          · exact ⟨rest, _, rfl, .inr (.inr (.inr (.inr (Host.Outcome.next.inj h).symm)))⟩
        · simp only [State.takeTurn, State.afterPoll] at h
          split at h
          · refine ⟨.waited (early - 1) :: rest, _, rfl, ?_⟩
            exact .inr ((State.grant_cases _).elim
              (fun ⟨tr, hp, hb, hg⟩ => .inl ⟨tr, hp, hb, by simpa [hg] using h.symm⟩)
              fun hg => .inr (.inr (.inr (by simpa [hg] using h.symm))))
          · split at h
            · exact ⟨.wait early :: rest, _, rfl, .inr (.inr (.inr (.inr (Host.Outcome.next.inj h).symm)))⟩
            · exact ⟨rest, _, rfl, .inr (.inr (.inr (.inr (Host.Outcome.next.inj h).symm)))⟩
      refine ⟨rest, { s with agenda := rest }, rfl, ?_⟩
      cases turn with
      | wait early => exact absurd ⟨early, .inl rfl⟩ hw
      | waited early => exact absurd ⟨early, .inr rfl⟩ hw
      | request tr =>
        simp only [State.takeTurn] at h
        split at h
        · exact .inr (.inr (.inl ⟨tr, ‹_›, (Host.Outcome.next.inj h).symm⟩))
        · exact .inr (.inr (.inr (.inr (Host.Outcome.next.inj h).symm)))
      | grant =>
        simp only [State.takeTurn] at h
        exact .inr ((State.grant_cases _).elim (fun ⟨tr, hp, hb, hg⟩ => .inl ⟨tr, hp, hb, by simpa [hg] using h.symm⟩)
          fun hg => .inr (.inr (.inr (by simpa [hg] using h.symm))))
      | engine =>
        simp only [State.takeTurn] at h
        split at h
        · exact .inr (.inr (.inr (.inr (Host.Outcome.next.inj h).symm)))
        · exact .inl ⟨_, ‹_›, h⟩
      | reset => exact .inr (.inr (.inr (.inl ⟨ha, (Host.Outcome.next.inj h).symm⟩)))

/-- Everything an Engine step can do: a decoded command's effect, or the E_ILLCMD abort. -/
theorem State.engineStep_cases (s : State) (w : Word) :
    (∃ i, decode w = .ok i ∧ s.engineStep w = exec i s) ∨
      (∃ e, decode w = .error e ∧ s.engineStep w = .next (s.raise .illCmd)) := by
  cases hd : decode w with
  | ok i => exact .inl ⟨i, rfl, by simp [State.engineStep, hd]⟩
  | error e => exact .inr ⟨e, rfl, by simp [State.engineStep, hd]⟩

end Sys2Proof.Machine
end

