-- ==== Sys2Proof/Laws/Window.lean ====
section
/-! SUPPORT. What replacing the active window does, once for IMG and once for PLN: the cells of the window read as the
given function says, and every other address reads as before. -/

namespace Sys2Proof.Machine

theorem mem_channels {c : Nat} : c ∈ channels ↔ c < 3 := by simp [channels]

theorem mem_planes {p : Nat} : p ∈ planes ↔ p < 24 := by simp [planes]

@[simp] theorem bitByte_getLsbD_zero (b : Bool) : (bitByte b).getLsbD 0 = b := by cases b <;> rfl

theorem mem_windowCells {addr : Nat → Nat → Nat → Nat} {gs : List Nat} {h w : Nat} {f : Nat → Nat → Nat → Byte}
    {cell : Host.Cell} :
    cell ∈ windowCells addr gs h w f ↔
      ∃ g ∈ gs, ∃ y < h, ∃ x < w, cell = (addr g y x, f g y x) := by
  simp [windowCells, eq_comm]

/-- Image addresses are distinct: the fields of `20_memory.md` R54 do not overlap. -/
theorem imgAddr_inj {c y x c' y' x' : Nat} (hy : y < 4096) (hx : x < 4096) (hy' : y' < 4096) (hx' : x' < 4096)
    (h : imgAddr c y x = imgAddr c' y' x') : c = c' ∧ y = y' ∧ x = x' := by
  simp only [imgAddr] at h
  omega

/-- Plane addresses are distinct: the fields of `20_memory.md` R54 do not overlap. -/
theorem plnAddr_inj {p y x p' y' x' : Nat} (hy : y < 4096) (hx : x < 4096) (hy' : y' < 4096) (hx' : x' < 4096)
    (h : plnAddr p y x = plnAddr p' y' x') : p = p' ∧ y = y' ∧ x = x' := by
  simp only [plnAddr] at h
  omega

/-- No image address is a plane address. -/
theorem imgAddr_ne_plnAddr {c y x p y' x' : Nat} (hc : c < 3) (hy : y < 4096) (hx : x < 4096) :
    imgAddr c y x ≠ plnAddr p y' x' := by
  simp only [imgAddr, plnAddr]
  omega

/-- An address no cell of the list is written to reads as before. -/
theorem State.setImgWindow_read_of_not_mem (s : State) (f : Nat → Nat → Nat → Byte) {a : Nat}
    (h : ∀ c y x, c < 3 → y < s.height → x < s.width → a ≠ imgAddr c y x) :
    (s.setImgWindow f).mem.read a = s.mem.read a := by
  refine Memory.read_writeAll_of_not_mem fun cell hc => ?_
  obtain ⟨c, hcm, y, hy, x, hx, rfl⟩ := mem_windowCells.1 hc
  exact (h c y x (mem_channels.1 hcm) hy hx).symm

theorem State.setPlnWindow_read_of_not_mem (s : State) (ps : List Nat) (f : Nat → Nat → Nat → Bool) {a : Nat}
    (h : ∀ p y x, p ∈ ps → y < s.height → x < s.width → a ≠ plnAddr p y x) :
    (s.setPlnWindow ps f).mem.read a = s.mem.read a := by
  refine Memory.read_writeAll_of_not_mem fun cell hc => ?_
  obtain ⟨p, hp, y, hy, x, hx, rfl⟩ := mem_windowCells.1 hc
  exact (h p y x hp hy hx).symm

/-- A cell of the active window of IMG reads as the function says. -/
theorem State.setImgWindow_img {s : State} (hm : s.mem.wf = true) (hh : s.height ≤ 4096) (hw : s.width ≤ 4096)
    (f : Nat → Nat → Nat → Byte) {c y x : Nat} (hc : c < 3) (hy : y < s.height) (hx : x < s.width) :
    (s.setImgWindow f).img c y x = f c y x := by
  refine Memory.read_writeAll_of_mem hm (mem_windowCells.2 ⟨c, mem_channels.2 hc, y, hy, x, hx, rfl⟩) ?_
  intro cell hcell heq
  obtain ⟨c', -, y', hy', x', hx', rfl⟩ := mem_windowCells.1 hcell
  obtain ⟨rfl, rfl, rfl⟩ := imgAddr_inj (by omega) (by omega) (by omega) (by omega) heq
  rfl

/-- A cell of the active window of a replaced plane reads as the function says. -/
theorem State.setPlnWindow_pln {s : State} (hm : s.mem.wf = true) (hh : s.height ≤ 4096) (hw : s.width ≤ 4096)
    {ps : List Nat} (f : Nat → Nat → Nat → Bool) {p y x : Nat} (hp : p ∈ ps) (hy : y < s.height) (hx : x < s.width) :
    (s.setPlnWindow ps f).pln p y x = f p y x := by
  have : (s.setPlnWindow ps f).mem.read (plnAddr p y x) = bitByte (f p y x) := by
    refine Memory.read_writeAll_of_mem hm (mem_windowCells.2 ⟨p, hp, y, hy, x, hx, rfl⟩) ?_
    intro cell hcell heq
    obtain ⟨p', -, y', hy', x', hx', rfl⟩ := mem_windowCells.1 hcell
    obtain ⟨rfl, rfl, rfl⟩ := plnAddr_inj (by omega) (by omega) (by omega) (by omega) heq
    rfl
  rw [State.pln, this, bitByte_getLsbD_zero]

/-- Replacing the window of IMG touches no plane. -/
theorem State.setImgWindow_pln {s : State} (hh : s.height ≤ 4096) (hw : s.width ≤ 4096)
    (f : Nat → Nat → Nat → Byte) (p y x : Nat) : (s.setImgWindow f).pln p y x = s.pln p y x := by
  have := s.setImgWindow_read_of_not_mem f (a := plnAddr p y x)
    fun c y' x' hc hy hx => (imgAddr_ne_plnAddr hc (by omega) (by omega)).symm
  rw [State.pln, State.pln, this]

/-- Replacing the window of planes touches no sample of the three channels. -/
theorem State.setPlnWindow_img {s : State} (ps : List Nat) (f : Nat → Nat → Nat → Bool) {c y x : Nat} (hc : c < 3)
    (hy : y < 4096) (hx : x < 4096) : (s.setPlnWindow ps f).img c y x = s.img c y x :=
  s.setPlnWindow_read_of_not_mem ps f fun _ _ _ _ _ _ => imgAddr_ne_plnAddr hc hy hx

theorem State.wf_setImgWindow {s : State} (hm : s.mem.wf = true) (f : Nat → Nat → Nat → Byte) :
    (s.setImgWindow f).mem.wf = true := Memory.wf_writeAll hm _

theorem State.wf_setPlnWindow {s : State} (hm : s.mem.wf = true) (ps : List Nat) (f : Nat → Nat → Nat → Bool) :
    (s.setPlnWindow ps f).mem.wf = true := Memory.wf_writeAll hm _

end Sys2Proof.Machine
end

