-- ==== Sys2Proof/Laws/Storage.lean ====
section
/-! SUPPORT. Every other memory operation keeps the canonical form: the host port's writes and what a reset leaves; and
the memory right after reset has it. -/

namespace Sys2Proof.Machine

theorem State.wf_writeCmd {s : State} (h : s.mem.wf = true) (w : Word) : (s.writeCmd w).mem.wf = true := by
  simp only [State.writeCmd]
  split_ifs
  · exact h
  · exact h

theorem State.wf_writeCsr {s : State} (h : s.mem.wf = true) (n : Nat) (w : Word) : (s.writeCsr n w).mem.wf = true := by
  simp only [State.writeCsr]
  split
  · exact State.wf_writeCmd h w
  all_goals exact h

theorem State.mem_setKey (s : State) (slot : Nat) (k : Key) : (s.setKey slot k).mem = s.mem := by
  simp only [State.setKey]
  split <;> rfl

/-- A write through the port keeps the canonical form (`20_memory.md` R53). -/
theorem State.wf_writeElement {s : State} (h : s.mem.wf = true) (e : Element) (w : Word) :
    (s.writeElement e w).mem.wf = true := by
  cases e with
  | csr n => exact State.wf_writeCsr h n w
  | keyBit slot i => simpa only [State.writeElement, State.mem_setKey] using h
  | img c y x => exact Memory.wf_write h _ _
  | pln p y x => exact Memory.wf_write h _ _

/-- A transaction keeps the canonical form. -/
theorem State.wf_transact {s : State} (h : s.mem.wf = true) (t : Transaction) : (s.transact t).mem.wf = true := by
  cases t with
  | read addr => simp only [State.transact]; split <;> exact h
  | write addr w =>
    simp only [State.transact]
    split
    · exact State.wf_writeElement h _ w
    · exact h

theorem State.wf_residueMem (s : State) : s.residueMem.wf = true := Memory.wf_writeAll rfl _

/-- What a reset leaves is in the canonical form. -/
theorem State.wf_memAfterReset (s : State) : s.memAfterReset.wf = true := by
  simp only [State.memAfterReset]
  split
  · exact Memory.wf_writeAll s.wf_residueMem _
  · exact Memory.wf_writeAll s.wf_residueMem _
  · exact s.wf_residueMem

/-- The memory right after reset is in the canonical form. -/
theorem State.wf_reset : State.reset.mem.wf = true := rfl

/-- The address decoder finds the cell an image address names (`20_memory.md` R54, R57). -/
theorem decodeAddr_imgAddr {params : Config.Params} {rmax c y x : Nat} (hc : c < 3) (hy : y < params.hmax)
    (hx : x < params.wmax) (hy' : y < 4096) (hx' : x < 4096) :
    decodeAddr params rmax (imgAddr c y x) = some (.img c y x) := by
  have h2 : imgAddr c y x / 0x20000000 = 2 := by simp only [imgAddr]; omega
  have hg : imgAddr c y x / 0x1000000 % 0x20 = c := by simp only [imgAddr]; omega
  have hyy : imgAddr c y x / 0x1000 % 0x1000 = y := by simp only [imgAddr]; omega
  have hxx : imgAddr c y x % 0x1000 = x := by simp only [imgAddr]; omega
  simp only [decodeAddr, h2, hg, hyy, hxx]
  simp [hc, hy, hx]

/-- The address decoder finds the cell a plane address names (`20_memory.md` R54, R57). -/
theorem decodeAddr_plnAddr {params : Config.Params} {rmax p y x : Nat} (hp : p < 24) (hy : y < params.hmax)
    (hx : x < params.wmax) (hy' : y < 4096) (hx' : x < 4096) :
    decodeAddr params rmax (plnAddr p y x) = some (.pln p y x) := by
  have h3 : plnAddr p y x / 0x20000000 = 3 := by simp only [plnAddr]; omega
  have hg : plnAddr p y x / 0x1000000 % 0x20 = p := by simp only [plnAddr]; omega
  have hyy : plnAddr p y x / 0x1000 % 0x1000 = y := by simp only [plnAddr]; omega
  have hxx : plnAddr p y x % 0x1000 = x := by simp only [plnAddr]; omega
  simp only [decodeAddr, h3, hg, hyy, hxx]
  simp [hp, hy, hx]

end Sys2Proof.Machine
end

