-- ==== Sys2Proof/Tests/Slice0.lean ====
section
/-! SUPPORT. The model's own tests: the spec's example words and vectors (`95_test_vectors.md`), an ill-formed term for
each check of WellFormed, and, for every statement with premises, a state and operands that meet them. -/

namespace Sys2Proof.Tests

open Sys2Proof.Machine

/-- The state an outcome goes on to. -/
def after : Outcome → Option State
  | .next t => some t
  | _ => none

/-- The state after a command. -/
def run (i : Instr) (s : State) : Option State := after (exec i s)

/-- STATUS after a step or command, as the port reads it. -/
def statusWord (s : Option State) : Option Word := s.map fun t => t.status.word

/-- The bit-string of `h"..."`, its hex digits given as numbers (`00_scope.md` R8). -/
def hexBits (digits : List Nat) : BitString :=
  digits.flatMap fun d => [d / 8 % 2 == 1, d / 4 % 2 == 1, d / 2 % 2 == 1, d % 2 == 1]

/-- The key with those bits. -/
def hexKey (digits : List Nat) : Key := Key.ofBits (hexBits digits)

/-- KA of `95_test_vectors.md`. -/
def keyA : Key := hexKey
  [0, 1, 2, 3, 4, 5, 6, 7, 8, 9, 10, 11, 12, 13, 14, 15, 15, 14, 13, 12, 11, 10, 9, 8, 7, 6, 5, 4, 3, 2, 1, 0]

/-- KB of `95_test_vectors.md`. -/
def keyB : Key := hexKey
  [13, 14, 10, 13, 11, 14, 14, 15, 12, 10, 15, 14, 15, 0, 0, 13, 0, 15, 1, 14, 2, 13, 3, 12, 4, 11, 5, 10, 6, 9, 7, 8]

/-- The key of 128 one bits. -/
def keyOnes : Key := Vector.replicate 128 true

/-- Reset with an image size and contents of IMG and PLN. -/
def withImage (h w : Nat) (m : Memory) : State :=
  { State.reset with dimH := BitVec.ofNat 13 h, dimW := BitVec.ofNat 13 w, mem := m }

/-! ### WellFormed refuses, one term for each check -/

theorem test_kst_slot_too_large : ¬ (Instr.kst 65536).WellFormed := by decide
theorem test_kld_slot_too_large : ¬ (Instr.kld 65536).WellFormed := by decide
theorem test_frot_plane_too_large : ¬ (Instr.frot 32 0).WellFormed := by decide
theorem test_frot_steps_too_large : ¬ (Instr.frot 0 32768).WellFormed := by decide
theorem test_frot_steps_too_small : ¬ (Instr.frot 0 (-32769)).WellFormed := by decide
theorem test_frotk_plane_too_large : ¬ (Instr.frotk 32 .fwd).WellFormed := by decide

/-! ### Decoding: a word for every constructor (`30_encoding.md` R83, R88, `95_test_vectors.md` T1, T2) -/

theorem test_decode_nop : decode 0x00000000 = .ok .nop := rfl
theorem test_decode_errclr : decode 0x00000001 = .ok .errclr := rfl
theorem test_decode_decomp : decode 0x00000010 = .ok .decomp := rfl
theorem test_decode_recomp : decode 0x00000011 = .ok .recomp := rfl
theorem test_decode_rowp : decode 0b00000000000000000000000100100000 = .ok (.rowp .inv) := rfl
theorem test_decode_colp : decode 0x00000021 = .ok (.colp .fwd) := rfl
theorem test_decode_kupd : decode 0x00000022 = .ok .kupd := rfl
theorem test_decode_kst : decode 0b00000000000000100000000000100011 = .ok (.kst 2) := rfl
theorem test_decode_kld : decode 0xFFFF0024 = .ok (.kld 65535) := rfl
theorem test_decode_kfin : decode 0x00000025 = .ok .kfin := rfl
theorem test_decode_scr : decode 0x00000026 = .ok .scr := rfl
theorem test_decode_uscr : decode 0x00000027 = .ok .uscr := rfl
theorem test_decode_frot : decode 0b11111111111111010000101000110000 = .ok (.frot 5 (-3)) := rfl
theorem test_decode_frot_most_negative : decode 0x80000030 = .ok (.frot 0 (-32768)) := rfl
theorem test_decode_frotk : decode 0b00000000000000000010111100110001 = .ok (.frotk 23 .inv) := rfl
theorem test_decode_frota : decode 0x00000132 = .ok (.frota .inv) := rfl
theorem test_decode_pshuf : decode 0x00000040 = .ok .pshuf := rfl
theorem test_decode_enc : decode 0x00000050 = .ok .enc := rfl
theorem test_decode_dec : decode 0x00000051 = .ok .dec := rfl

theorem test_encode_frot : encode (.frot 5 (-3)) = 0xFFFD0A30 := by decide
theorem test_encode_frotk : encode (.frotk 23 .inv) = 0x00002F31 := by decide
theorem test_encode_kst : encode (.kst 16) = 0x00100023 := by decide

theorem test_illegal_enc_with_dir : decode 0x00000150 = .error (.mustBeZero "ENC") := rfl
theorem test_illegal_frot_with_dir : decode 0x00010130 = .error (.mustBeZero "FROT") := rfl
theorem test_illegal_rsv_bit : decode 0x00004030 = .error (.mustBeZero "FROT") := rfl
theorem test_illegal_frotk_with_imm : decode 0x00012F31 = .error (.mustBeZero "FROTK") := rfl
theorem test_illegal_kst_with_dir : decode 0x00020123 = .error (.mustBeZero "KST") := rfl
theorem test_illegal_reserved_op : decode 0x00000052 = .error (.unknownOp 0x52) := rfl

theorem test_rows_are_the_tables :
    opcodeTable.map (fun row => (row.matchWord, row.format.mask)) = opcodeRows := by decide

/-! ### Key functions (`95_test_vectors.md` T8 to T11) -/

theorem test_getBits_wraps : getBits [true, false, true, false] 3 4 = [false, true, false, true] := by decide
theorem test_win4_msb_first : win4 [true, false, true, true, false, false, true, false] 6 = 10 := by decide
theorem test_reduce : reduce [true, false, true, true, false, false, true, false]
    = [true, false, true, false, false, true] := by decide
theorem test_update1 : update1 [true, false, true, true, false, false, true, false]
    = [false, false, true, true, false, true, false, false] := by decide
theorem test_update1_fixed_point : update1 [false, true, true, true] = [false, true, true, true] := by decide

/-! ### The commands -/

theorem test_nop_after_reset : statusWord (after (step (State.reset.withFetchWord 32 0))) = some 0x00000002 := by decide
/-- `95_test_vectors.md` T29. -/
theorem test_errclr_after_e_plane : statusWord (run .errclr
    { State.reset with status := { busy := true, done := false, err := true, errcode := 3 } }) = some 0x00000002 := by
  decide
/-- `42_bitplane_codec.md` R141: 0xA5 in channel 1. -/
theorem test_decomp_a5 : (run .decomp (withImage 1 1 [(imgAddr 1 0 0, 0xA5)])).map
    (fun t => (List.range 24).filter fun p => t.pln p 0 0) = some [8, 10, 13, 15] := by decide +kernel
/-- `95_test_vectors.md` T22. -/
theorem test_recomp_plane_three : (run .recomp (withImage 1 2 [(plnAddr 3 0 0, 1)])).map
    (fun t => [t.img 0 0 0, t.img 0 0 1, t.img 1 0 0]) = some [0x08, 0, 0] := by decide +kernel
/-- The image of `95_test_vectors.md` T16, its channel 0. -/
def rowImage : State :=
  { withImage 1 5 (windowCells imgAddr [0] 1 5 fun _ _ x => BitVec.ofNat 8 (x + 1)) with k1 := keyB }

/-- `95_test_vectors.md` T16. -/
theorem test_rowp_forward : (run (.rowp .fwd) rowImage).map
    (fun t => (List.range 5).map fun x => (t.img 0 0 x).toNat) = some [3, 4, 5, 1, 2] := by decide +kernel
theorem test_rowp_inverse : (run (.rowp .inv) rowImage).map
    (fun t => (List.range 5).map fun x => (t.img 0 0 x).toNat) = some [4, 5, 1, 2, 3] := by decide +kernel

/-- Columns 0 and 1 of channel 0 of `95_test_vectors.md` T17. -/
def columnImage : State :=
  { withImage 3 2 [(imgAddr 0 0 0, 0x0B), (imgAddr 0 0 1, 0x30), (imgAddr 0 1 0, 0x0E), (imgAddr 0 1 1, 0x9F),
      (imgAddr 0 2 0, 0x7D), (imgAddr 0 2 1, 0xA2)] with k2 := keyB }

/-- `95_test_vectors.md` T17: shifts 1 and 2. -/
theorem test_colp_forward : (run (.colp .fwd) columnImage).map
    (fun t => (List.range 3).map fun y => (t.img 0 y 0, t.img 0 y 1))
      = some [(0x7D, 0x9F), (0x0B, 0xA2), (0x0E, 0x30)] := by decide +kernel

/-- `95_test_vectors.md` T12. -/
def keyState : State := { State.reset with k1 := keyA, k2 := keyB }

theorem test_kupd_bits :
    update1 (hexBits [0, 1, 2, 3, 4, 5, 6, 7, 8, 9, 10, 11, 12, 13, 14, 15, 15, 14, 13, 12, 11, 10, 9, 8, 7, 6, 5, 4, 3, 2,
      1, 0])
    = hexBits [15, 15, 15, 15, 15, 15, 15, 15, 15, 15, 15, 15, 15, 15, 15, 15, 15, 13, 11, 9, 7, 5, 3, 0, 14, 12, 10, 8, 6,
      4, 2, 1] := by decide +kernel
theorem test_kupd : (run .kupd keyState).map (fun t => (t.k1.bit 127, t.k1.bit 95, t.k2.bit 0, t.k2.bit 127))
    = some (true, false, true, false) := by decide +kernel
theorem test_kst_last_slot : (run (.kst 15) keyState).map (fun t => ((t.pair 15).k2, t.status.word, (t.pair 14).k2))
    = some (keyB, 0x00000002, zeroKey) := rfl
/-- `95_test_vectors.md` T13. -/
theorem test_kst_slot_16 : statusWord (run (.kst 16) keyState) = some 0x00000404 := by decide
theorem test_kld : (run (.kld 3) { State.reset with
    rks := State.reset.rks.set 3 { k1 := keyA, k2 := keyB } }).map (fun t => (t.k1, t.k2)) = some (keyA, keyB) := rfl
theorem test_kld_slot_65535 : statusWord (run (.kld 65535) keyState) = some 0x00000404 := by decide
theorem test_kfin : (run .kfin keyState).map (fun t => (t.fk1, t.fk2)) = some (keyA, keyB) := rfl

/-- The rows of columns 0 and 1 of T17 with the keys and round count of `95_test_vectors.md` T30. -/
def scrState : State := { columnImage with k1 := keyA, rounds := 2 }

/-- `95_test_vectors.md` T30: FK1 after a two-round SCR begins 048D. -/
theorem test_scr_final_key : (run .scr scrState).map (fun t => (List.range 16).map t.fk1.bit)
    = some (hexBits [0, 4, 8, 13]) := by decide +kernel
/-- `41_pixel_permutation.md` R125 (c). -/
theorem test_uscr_restores : ((run .scr scrState).bind (run .uscr)).map (fun t => t.mem)
    = some scrState.mem := by decide +kernel
/-- `95_test_vectors.md` T24. -/
theorem test_frot_one_step : (run (.frot 4 1) (withImage 2 2 [(plnAddr 4 0 0, 1)])).map (fun t => t.mem)
    = some [(plnAddr 4 0 1, 1)] := by decide +kernel
/-- `95_test_vectors.md` T29: E_DIM before E_PLANE. -/
theorem test_frot_priority : statusWord (run (.frot 24 1) State.reset) = some 0x00000204 := by decide
/-- `95_test_vectors.md` T27: with all-one final keys every step is 2. -/
theorem test_frotk_two_steps : (run (.frotk 6 .inv) { withImage 2 3 [(plnAddr 6 0 0, 1)] with
    fk1 := keyOnes, fk2 := keyOnes }).map (fun t => t.mem) = some [(plnAddr 6 1 1, 1)] := by decide +kernel
theorem test_frota_each_plane : (run (.frota .fwd) { withImage 2 2 [(plnAddr 0 0 0, 1), (plnAddr 23 0 1, 1)] with
    fk1 := keyOnes, fk2 := keyOnes }).map (fun t => t.mem)
    = some [(plnAddr 0 1 1, 1), (plnAddr 23 1 0, 1)] := by decide +kernel
/-- `95_test_vectors.md` T28. -/
theorem test_pshuf : (run .pshuf (withImage 1 1 [(plnAddr 0 0 0, 1), (plnAddr 17 0 0, 1)])).map (fun t => t.mem)
    = some [(plnAddr 7 0 0, 1), (plnAddr 22 0 0, 1)] := by decide +kernel
/-- `42_bitplane_codec.md` R143 (c): with one pixel ENC reverses the bits of each sample. -/
theorem test_enc_one_pixel : (run .enc (withImage 1 1 [(imgAddr 0 0 0, 0x1D), (imgAddr 1 0 0, 0x3C)])).map
    (fun t => [t.img 0 0 0, t.img 1 0 0, t.img 2 0 0]) = some [0xB8, 0x3C, 0] := by decide +kernel
theorem test_dec_one_pixel : (run .dec (withImage 1 1 [(imgAddr 0 0 0, 0xB8)])).map (fun t => t.img 0 0 0)
    = some 0x1D := by decide +kernel
/-- `95_test_vectors.md` P4: after reset ENC raises E_DIM. -/
theorem test_enc_after_reset : statusWord (after (step (State.reset.withFetchWord 32 0x50))) = some 0x00000204 := by decide

/-! ### The host port (`95_test_vectors.md` T3 to T6) -/

theorem test_unmapped_addresses :
    ([0x00000007, 0x1FFFFFFF, 0x20000080, 0x20009000, 0x20020000, 0x43000000, 0x40040000, 0x40000040, 0x78000000,
      0x80000000, 0xFFFFFFFF].all fun a => (State.reset.element a).isNone) = true := by decide
theorem test_mapped_addresses :
    [0x00000006, 0x2000007F, 0x20008C7F, 0x42000000, 0x4003F03F, 0x77000000].map State.reset.element
      = [some (.csr 6), some (.keyBit 0 127), some (.keyBit 35 127), some (.img 2 0 0), some (.img 0 63 63),
         some (.pln 23 0 0)] := by decide
theorem test_params_read : (State.reset.readCsr 5, State.reset.readCsr 6) = (0x00100080, 0x00400040) := by decide
theorem test_dimh_keeps_13_bits : (State.reset.transact (.write 2 0xFFFFFFFF)).readCsr 2 = 0x00001FFF := by decide
theorem test_sample_keeps_8_bits : (State.reset.transact (.write 0x40000000 0x1234)).readElement (.img 0 0 0) = 0x34 := by
  decide
theorem test_plane_bit_keeps_1_bit : (State.reset.transact (.write 0x60000000 2)).mem = [] := by decide
theorem test_command_discarded_while_err : ({ State.reset with
    status := { busy := false, done := false, err := true, errcode := 2 } } : State).writeCmd 0x00000101
      = { State.reset with status := { busy := false, done := false, err := true, errcode := 2 } } := by decide +kernel

/-- `30_encoding.md` R89, and R81 for the words. -/
theorem test_host_lines : [HostLine.funrot 5 3, .setDim 3 4, .wait 2].flatMap HostLine.turns
    = [.request (.write 0 0xFFFD0A30), .request (.write 2 3), .request (.write 3 4), .wait 2] := by decide
/-- `30_encoding.md` R89: bit i of the key goes to offset i. -/
theorem test_host_ldkey : ((HostLine.ldKey 1 keyOnes).turns)[127]? = some (.request (.write 0x2000047F 1)) := by
  decide +kernel
theorem test_host_line_out_of_range : ¬ (HostLine.funrot 0 (-32768)).WellFormed := by decide
/-- `30_encoding.md` R89: a WAIT whose read saw BUSY 1 reads again, one whose read saw BUSY 0 is over. -/
theorem test_wait_goes_on : (after (step { State.reset with
    agenda := [.waited 0], response := some (.read 1 false) })).map (fun t => t.agenda) = some [.wait 0] := by decide +kernel
theorem test_wait_ends : (after (step { State.reset with
    agenda := [.waited 0], response := some (.read 2 false) })).map (fun t => t.agenda) = some [] := by decide +kernel
/-- `20_memory.md` R59: the STATUS read of a WAIT completes while a command is pending. -/
theorem test_wait_reads_early : (after (step { State.reset.accept 0 with
    agenda := [.waited 1], port := some (.read 1) })).map (fun t => (t.response, t.agenda))
    = some (some (.read 1 false), [.waited 0]) := by decide +kernel
/-- `45_pipeline_system.md` R175, run by the Host from reset: the Engine step comes before the STATUS read completes (entry 7). -/
theorem test_host_runs_nop : (((((after (step (State.reset.withHostProgram [.command .nop, .rd 1]))).bind
    fun t => after (step t)).bind fun t => after (step t)).bind fun t => after (step t)).bind
    fun t => after (step t)).bind (fun t => t.response) = some (.read 0x00000002 false) := by decide +kernel

/-! ### Witnesses: states and operands that meet the premises of the statements -/

/-- An idle block with a 2 by 3 image, some cells set. -/
def demo : State := withImage 2 3 [(imgAddr 0 0 0, 0x1D), (plnAddr 5 1 2, 1)]

/-- The same with the largest legal image, 64 by 64. -/
def demoLargest : State := withImage 64 64 [(imgAddr 2 63 63, 0xFF)]

/-- The same with an image one row too high. -/
def demoTooHigh : State := withImage 65 64 []

/-- `demo` with a command pending. -/
def pending (w : Word) : State := demo.accept w

/-- `demo` with E_DIM recorded. -/
def demoErr : State := { demo with status := { busy := false, done := false, err := true, errcode := 2 } }

theorem demo_inv : demo.Inv :=
  ⟨by decide, by decide, by decide, by decide, by decide, by decide, by decide, by decide⟩
theorem demoLargest_inv : demoLargest.Inv :=
  ⟨by decide, by decide, by decide, by decide, by decide, by decide, by decide, by decide⟩
theorem demoTooHigh_inv : demoTooHigh.Inv :=
  ⟨by decide, by decide, by decide, by decide, by decide, by decide, by decide, by decide⟩
theorem demoErr_inv : demoErr.Inv :=
  ⟨by decide, by decide, by decide, by decide, by decide, by decide, by decide, by decide⟩
theorem reset_inv : State.reset.Inv :=
  ⟨by decide, by decide, by decide, by decide, by decide, by decide, by decide, by decide⟩
theorem pending_inv (w : Word) : (pending w).Inv :=
  ⟨demo_inv.params, demo_inv.slots, demo_inv.memWf, demo_inv.memFits, demo_inv.errcodeLegal, demo_inv.errcodeZero,
    (nomatch ·), fun _ h => nomatch h⟩

/-- The image size is legal at its smallest and its largest, and illegal at 0 and one above. -/
theorem witness_dims_boundaries :
    (withImage 1 1 []).DimsLegal ∧ demoLargest.DimsLegal ∧ ¬ demoTooHigh.DimsLegal ∧ ¬ (withImage 0 4 []).DimsLegal := by
  decide
/-- The round count is legal at 1 and RMAX, and illegal at 0 and one above. -/
theorem witness_rounds_boundaries :
    State.RoundsLegal { demo with rounds := 1 } ∧ State.RoundsLegal { demo with rounds := 16 } ∧
    ¬ State.RoundsLegal { demo with rounds := 0 } ∧ ¬ State.RoundsLegal { demo with rounds := 17 } := by decide

theorem witness_DecodeOfEncode : (Instr.frot 31 (-32768)).WellFormed := by decide
theorem witness_EncodeOfDecode : decode 0xFFFF0024 = .ok (.kld 65535) := rfl
theorem witness_IllegalWordsRaiseIllCmd : (pending 0x00013130).agenda = [] ∧ (pending 0x00013130).status.busy = true ∧
    (pending 0x00013130).pend = 0x00013130 ∧ ∀ row ∈ opcodeRows, (0x00013130 : Word) &&& row.2 ≠ row.1 :=
  ⟨rfl, rfl, rfl, by simp [opcodeRows]⟩
theorem witness_IllegalWordsRaiseIllCmd_instance :
    ∃ row ∈ opcodeRows, (0x00000010 : Word) &&& row.2 = row.1 := by decide
theorem witness_StepRunsDecodedCommand :
    (pending 0x10).status.busy = true ∧ decode (pending 0x10).pend = .ok .decomp ∧ (pending 0x10).agenda = [] := ⟨rfl, rfl, rfl⟩
theorem witness_StepRunsDecodedCommand_engineTurn : ∃ s : State,
    s.status.busy = true ∧ decode s.pend = .ok .decomp ∧ s.agenda = .engine :: [] := ⟨{ pending 0x10 with agenda := [.engine] }, rfl, rfl, rfl⟩
theorem witness_CommandWordReachesTheEngine : ∃ s : State,
    s.agenda = [.request (.write 0 0x50)] ∧ s.port = none ∧ s.status.busy = false ∧ s.status.err = false ∧
      decode 0x50 = .ok .enc := ⟨{ demo with agenda := [.request (.write 0 0x50)] }, rfl, rfl, rfl, rfl, rfl⟩
theorem witness_EngineStepCompletesOrAbortsPrecisely :
    (pending 0x10).Inv ∧ (pending 0x10).agenda = [] ∧ (pending 0x10).status.busy = true := ⟨pending_inv _, rfl, rfl⟩
theorem witness_StepKeepsInv : (pending 0x22).Inv ∧ step (pending 0x22) = .next (pending 0x22).updateKeys.complete :=
  ⟨pending_inv _, rfl⟩
theorem witness_ResetHasInv : Config.defaultParams.Legal ∧ 1 ≤ (Storage.zero 16).rks.length ∧
    (Storage.zero 16).rks.length ≤ 62 ∧ (Storage.zero 16).mem.wf = true ∧
    ∀ cell ∈ (Storage.zero 16).mem, fitByte Config.defaultParams cell.1 cell.2 = cell.2 := by decide
theorem witness_EachCommandRaisesExactlyItsErrors : demoTooHigh.Inv ∧ usesDims .enc = true ∧ ¬ demoTooHigh.DimsLegal :=
  ⟨demoTooHigh_inv, rfl, by decide⟩
theorem witness_EachCommandRaisesExactlyItsErrors_plane : demo.Inv ∧ demo.DimsLegal ∧ 24 ≤ 24 ∧ 23 < 24 :=
  ⟨demo_inv, by decide, by decide, by decide⟩
theorem witness_EachCommandRaisesExactlyItsErrors_rounds : demo.Inv ∧ demo.rmax ≤ 16 ∧ 15 < demo.rmax :=
  ⟨demo_inv, by decide, by decide⟩
theorem witness_FailedCommandFailsAgain : State.reset.Inv ∧
    exec .enc State.reset = .next (State.reset.raise .dim) := ⟨reset_inv, rfl⟩
theorem witness_ErrorStaysUntilErrclrOrReset : demoErr.Inv ∧ step demoErr = .next demoErr ∧ demoErr.status.err = true :=
  ⟨demoErr_inv, rfl, rfl⟩
theorem witness_CmdWriteAcceptsDiscardsOrWaits_discards : ∃ s : State,
    s.agenda = [] ∧ s.port = some (.write 0 0) ∧ s.status.busy = false ∧ s.status.err = true ∧
      (0 : Word) ≠ 0x00000001 := ⟨{ demoErr with port := some (.write 0 0) }, rfl, rfl, rfl, rfl, by decide⟩
theorem witness_CmdWriteAcceptsDiscardsOrWaits_accepts : ∃ s : State,
    s.agenda = [] ∧ s.port = some (.write 0 1) ∧ s.status.busy = false ∧ (s.status.err = false ∨ (1 : Word) = 0x00000001) := ⟨{ demoErr with port := some (.write 0 1) }, rfl, rfl, rfl, .inr rfl⟩
theorem witness_CmdWriteAcceptsDiscardsOrWaits_waits : ∃ s : State,
    s.agenda = [] ∧ s.port = some (.write 0 0x11) ∧ s.status.busy = true := ⟨{ pending 0x10 with port := some (.write 0 0x11) }, rfl, rfl, rfl⟩
theorem witness_CmdWriteAcceptsDiscardsOrWaits_reads : ∃ s : State,
    s.agenda = [] ∧ s.port = some (.read 0) ∧ s.status.busy = false := ⟨{ demo with port := some (.read 0) }, rfl, rfl, rfl⟩
theorem witness_UnmappedAccessGetsErrorResponse : ∃ s : State,
    s.agenda = [] ∧ s.status.busy = false ∧ s.element 7 = none ∧ s.port = some (.read 7) := ⟨{ demo with port := some (.read 7) }, rfl, rfl, rfl, rfl⟩
theorem witness_UnmappedAccessGetsErrorResponse_busy : ∃ s : State,
    s.agenda = .grant :: [] ∧ s.status.busy = true ∧ s.element 0x1FFFFFFF = none ∧ (0x1FFFFFFF : Word).toNat < 0x20000000 ∧
      s.port = some (.read 0x1FFFFFFF) :=
  ⟨{ pending 0x10 with port := some (.read 0x1FFFFFFF), agenda := [.grant] }, rfl, rfl, rfl, by decide, rfl⟩
theorem witness_UnmappedAccessGetsErrorResponse_write : ∃ s : State,
    s.agenda = [] ∧ s.status.busy = false ∧ s.element 0x78000000 = none ∧ s.port = some (.write 0x78000000 1) := ⟨{ demo with port := some (.write 0x78000000 1) }, rfl, rfl, rfl, rfl⟩
theorem witness_TransactionsAreHeldWhileBusy : ∃ s : State,
    s.status.busy = true ∧ s.port = some (.read 0x20000000) ∧ s.agenda = .grant :: [] ∧
      ∀ a, Transaction.read 0x20000000 = .read a → 0x20000000 ≤ a.toNat := by
  refine ⟨{ pending 0x10 with port := some (.read 0x20000000), agenda := [.grant] }, rfl, rfl, rfl, fun a ha => ?_⟩
  injection ha with ha
  subst ha
  decide
theorem witness_TransactionsAreHeldWhileBusy_csr : ∃ s : State,
    s.status.busy = true ∧ s.port = some (.read 0x1FFFFFFF) ∧ s.agenda = .grant :: [] ∧
      (0x1FFFFFFF : Word).toNat < 0x20000000 := ⟨{ pending 0x10 with port := some (.read 0x1FFFFFFF), agenda := [.grant] }, rfl, rfl, rfl, by decide⟩
theorem witness_TransactionsAreHeldWhileBusy_status : ∃ s : State,
    s.status.busy = true ∧ s.port = some (.read 6) ∧ s.agenda = .grant :: [] ∧ (6 : Word).toNat < 0x20000000 ∧
      (6 : Word).toNat = 6 := ⟨{ pending 0x10 with port := some (.read 6), agenda := [.grant] }, rfl, rfl, rfl, by decide, rfl⟩
theorem witness_TransactionsAreHeldWhileBusy_completes : ∃ s : State,
    s.status.busy = true ∧ s.port = some (.write 2 4) ∧ s.agenda = [] ∧
      ∀ a, Transaction.write 2 4 = .read a → 0x20000000 ≤ a.toNat :=
  ⟨{ pending 0x10 with port := some (.write 2 4) }, rfl, rfl, rfl, fun _ h => nomatch h⟩
theorem witness_AddressMapIsTheSpecs : demo.Inv ∧ (0x1FFFFFFF : Word).toNat < 0x20000000 ∧ 35 < 4 + 2 * demo.rmax ∧
    63 < demo.params.hmax ∧ 63 < demo.params.wmax ∧ demo.element 0x20008C7F = some (.keyBit 35 127) :=
  ⟨demo_inv, by decide, by decide, by decide, by decide, rfl⟩
theorem witness_PortWriteThenRead : demo.Inv ∧ demo.element 0x4003F03F = some (.img 0 63 63) ∧
    Element.img 0 63 63 ≠ .csr 0 ∧ demo.element 0x77000000 = some (.pln 23 0 0) ∧
    demo.element 0x20008C7F = some (.keyBit 35 127) ∧ demo.element 2 = some (.csr 2) ∧ demo.element 3 = some (.csr 3) ∧
    demo.element 4 = some (.csr 4) ∧ demo.element 1 = some (.csr 1) ∧ demo.element 6 = some (.csr 6) :=
  ⟨demo_inv, rfl, by decide, rfl, rfl, rfl, rfl, rfl, rfl, rfl⟩
theorem witness_PortWriteThenRead_completes : ∃ s : State, s.Inv ∧ s.element 0x20000400 = some (.keyBit 1 0) ∧
    s.port = some (.read 0x20000400) ∧ s.status.busy = false ∧ s.agenda = .grant :: [] :=
  ⟨{ demo with port := some (.read 0x20000400), agenda := [.grant] },
    ⟨demo_inv.params, demo_inv.slots, demo_inv.memWf, demo_inv.memFits, demo_inv.errcodeLegal, demo_inv.errcodeZero,
      demo_inv.doneIdle, demo_inv.onlyErrclrPends⟩, rfl, rfl, rfl, rfl⟩
theorem witness_CsrsReadTheirFields : demoErr.Inv := demoErr_inv
theorem witness_ResetEdgeDropsAndClears : ∃ s : State,
    s.agenda = .reset :: [] := ⟨{ pending 0x10 with agenda := [.reset], port := some (.write 2 4) }, rfl⟩
/-- `demo` with a command pending and a reset coming. -/
def resetting (w : Word) : State := { pending w with agenda := [.reset] }
theorem resetting_inv (w : Word) : (resetting w).Inv :=
  ⟨demo_inv.params, demo_inv.slots, demo_inv.memWf, demo_inv.memFits, demo_inv.errcodeLegal, demo_inv.errcodeZero,
    (nomatch ·), fun _ h => nomatch h⟩
theorem witness_AbandonedCommandKeepsWhatItOnlyReads : (resetting 0x10).Inv ∧ (resetting 0x10).agenda = .reset :: [] ∧
    (resetting 0x10).status.busy = true ∧ decode (resetting 0x10).pend = .ok .decomp ∧ (resetting 0x10).DimsLegal :=
  ⟨resetting_inv _, rfl, rfl, rfl, by decide⟩
theorem witness_AbandonedCommandKeepsWhatItOnlyReads_decodes :
    decode (resetting 0x11).pend = .ok .recomp ∧ decode (resetting 0x20).pend = .ok (.rowp .fwd) ∧
    decode (resetting 0x121).pend = .ok (.colp .inv) ∧ decode (resetting 0x23).pend = .ok (.kst 0) ∧
    decode (resetting 0x000F0024).pend = .ok (.kld 15) ∧ 15 < (resetting 0x000F0024).rmax ∧
    decode (resetting 0x25).pend = .ok .kfin ∧ decode (resetting 0x27).pend = .ok .uscr ∧
    2 < (resetting 0x27).roundCount ∧ decode (resetting 0x31).pend = .ok (.frotk 0 .fwd) ∧
    decode (resetting 0x132).pend = .ok (.frota .inv) ∧ decode (resetting 0x51).pend = .ok .dec :=
  ⟨rfl, rfl, rfl, rfl, rfl, by decide, rfl, rfl, by decide, rfl, rfl, rfl⟩
theorem witness_WindowFunctionsWrapAround : ([true] : BitString) ≠ [] ∧ 0 < ([true] : BitString).length := by decide
theorem witness_ReduceDropsEveryFourthBit : 5 < (reduce (List.replicate 8 true)).length := by decide
theorem witness_UpdateOneBitByBit : 1 ≤ 1 ∧ ([true, false] : BitString).length = 2 * 1 ∧ 1 ≤ 2 ∧
    ([true, false, true, true] : BitString).length = 2 * 2 ∧ 2 ≤ 2 ∧ 2 + 1 < 2 * 2 := by decide
theorem witness_UpdateOneFixedPoints : 1 ≤ 2 ∧ ([false, true, true, true] : BitString).length = 2 * 2 := by decide
theorem witness_UpdateOneIsBijective : 1 ≤ 1 ∧ ([true, false] : BitString).length = 2 * 1 := by decide
theorem witness_ShiftsAreSmallAndRepeat : ([true, false, true, false] : BitString) ≠ [] ∧ 1 ≤ 1 ∧
    ([true, false, true, false] : BitString).length % 4 = 0 := by decide
theorem witness_NopCompletes : demoErr.status.err = true := rfl
theorem witness_ErrclrClearsTheError : demoErr.status.err = true ∧ demoErr.writeCmd 1 ≠ demoErr :=
  ⟨rfl, by decide +kernel⟩
theorem witness_KstRecordsThePair : demo.rmax ≤ 16 ∧ 15 < demo.rmax ∧ 0 ≠ 15 ∧ 65535 < 65536 := by decide
theorem witness_KldLoadsThePair : demo.rmax ≤ 16 ∧ 15 < demo.rks.length ∧ 65535 < 65536 := by decide
theorem witness_RowpShiftsRows : demo.Inv ∧ demo.DimsLegal ∧ 1 < demo.height ∧ 2 < demo.width ∧ ¬ demo.InImgWindow 0 ∧
    State.reset.Inv ∧ ¬ State.reset.DimsLegal := by
  refine ⟨demo_inv, by decide, by decide, by decide, ?_, reset_inv, by decide⟩
  rintro ⟨c, y, x, -, -, -, h⟩
  simp only [imgAddr] at h
  omega
theorem witness_ColpShiftsColumns : demoLargest.Inv ∧ demoLargest.DimsLegal ∧ 63 < demoLargest.height ∧
    63 < demoLargest.width := ⟨demoLargest_inv, by decide, by decide, by decide⟩
theorem witness_ScrIsItsRounds : demo.DimsLegal ∧ demo.RoundsLegal ∧ 2 < demo.roundCount ∧ demo.roundCount ≤ 3 ∧
    ¬ State.reset.DimsLegal ∧ ¬ State.RoundsLegal { demo with rounds := 0 } := by decide
theorem witness_UscrIsItsRounds : demo.DimsLegal ∧ demo.RoundsLegal ∧ ¬ State.RoundsLegal { demo with rounds := 17 } := by
  decide
theorem witness_PassesInvert : demo.Inv ∧ demo.DimsLegal := ⟨demo_inv, by decide⟩
theorem witness_UscrInvertsScr : demo.Inv ∧ demo.DimsLegal ∧ demo.RoundsLegal := ⟨demo_inv, by decide, by decide⟩
theorem witness_ScramblingPermutesPixels : demo.Inv ∧ demo.DimsLegal ∧ (Instr.scr = .scr ∨ Instr.scr = .uscr → demo.RoundsLegal) ∧
    ((∃ dir, Instr.scr = .rowp dir) ∨ (∃ dir, Instr.scr = .colp dir) ∨ Instr.scr = .scr ∨ Instr.scr = .uscr) :=
  ⟨demo_inv, by decide, fun _ => by decide, .inr (.inr (.inl rfl))⟩
/-- With an illegal ROUNDS the premise on ROWP is still met. -/
theorem witness_ScramblingPermutesPixels_rowp : ¬ State.RoundsLegal { demo with rounds := 0 } ∧
    State.DimsLegal { demo with rounds := 0 } ∧ ¬ (Instr.rowp .fwd = .scr ∨ Instr.rowp .fwd = .uscr) := by decide
theorem witness_DecompSplitsSamples : demo.Inv ∧ demo.DimsLegal ∧ 2 < 3 ∧ 7 < 8 ∧ 1 < demo.height ∧ 2 < demo.width :=
  ⟨demo_inv, by decide, by decide, by decide, by decide, by decide⟩
theorem witness_RecompJoinsPlanes : demoLargest.Inv ∧ demoLargest.DimsLegal := ⟨demoLargest_inv, by decide⟩
theorem witness_CodecRoundTrips : demo.Inv ∧ demo.DimsLegal := ⟨demo_inv, by decide⟩
theorem witness_RingIsTheBorderClockwise : 2 ≤ 2 ∧ 2 ≤ 3 ∧ (ring 2 3)[5]? = some (1, 0) := by decide
theorem witness_FrotMovesTheRing : 3 < 2 * (2 + 2) - 4 ∧ (ring 2 2)[3]? = some (1, 0) ∧
    (ring 2 2)[wrap ((3 : Nat) + 1) (2 * (2 + 2) - 4)]? = some (0, 0) ∧ (1, 1) ∉ ring 3 3 ∧ 1 < 2 := by decide
theorem witness_FrotLaws : 1 ≤ 1 ∧ (1 ≤ 1 ∧ 1 + 1 < 3) ∧ (8 : Int) = 1 * (2 * ((3 : Nat) + (3 : Nat)) - 4) := by decide
theorem witness_FstepAddsTwoDigits : 1 ≤ (reduce [true]).length ∧ keyA.bits.length = 128 ∧ 23 < 24 ∧
    (List.replicate 8 true).length = 8 := ⟨by decide, Vector.length_toList, by decide, by decide⟩
theorem witness_FrotRotatesOnePlane : demo.Inv ∧ demo.DimsLegal ∧ 23 < 24 ∧ 24 ≤ 24 ∧ (-32768 : Int) ≤ 32767 :=
  ⟨demo_inv, by decide, by decide, by decide, by decide⟩
theorem witness_FrotkRotatesByTheKeyStep : demo.Inv ∧ demo.DimsLegal ∧ 23 < 24 ∧ 31 < 32 :=
  ⟨demo_inv, by decide, by decide, by decide⟩
theorem witness_FrotaRotatesEveryPlane : demo.Inv ∧ demo.DimsLegal := ⟨demo_inv, by decide⟩
theorem witness_FrotaRotatesEveryPlane_order : (List.range 24).reverse.Perm (List.range 24) := List.reverse_perm _
theorem witness_FrotaIgnoresTheOtherKeyBits : ∀ idx < 24,
    (zeroKey.setBit 3 true).bit (idx + idx / 3) = demo.fk1.bit (idx + idx / 3) ∧
      zeroKey.bit (idx + idx / 3) = demo.fk2.bit (idx + idx / 3) := by decide +kernel
theorem witness_PshufReversesGroups : demo.Inv ∧ demo.DimsLegal ∧ 2 < 3 ∧ 7 < 8 := ⟨demo_inv, by decide, by decide, by decide⟩
theorem witness_PshufTwiceIsIdentity : demo.Inv ∧ demo.DimsLegal := ⟨demo_inv, by decide⟩
theorem witness_EncIsItsSequence : demo.Inv ∧ demo.DimsLegal ∧ demo.RoundsLegal ∧
    ¬ State.RoundsLegal { demo with rounds := 17 } := ⟨demo_inv, by decide, by decide, by decide⟩
theorem witness_DecIsItsSequence : demoLargest.Inv ∧ demoLargest.DimsLegal ∧ demoLargest.RoundsLegal :=
  ⟨demoLargest_inv, by decide, by decide⟩
/-- One pixel and one round. -/
def onePixel : State := { withImage 1 1 [(imgAddr 0 0 0, 0x1D)] with rounds := 1, k1 := keyA }
theorem onePixel_inv : onePixel.Inv :=
  ⟨by decide, by decide, by decide, by decide, by decide, by decide, by decide, by decide⟩
theorem onePixel_encodes : exec .enc onePixel = .next onePixel.encodeImage.complete := by
  have hd : onePixel.DimsLegal := by decide
  have hr : onePixel.RoundsLegal := by decide
  exact (State.withDims_of_legal hd _).trans (State.withRounds_of_legal hr _)
theorem onePixel_encoded_wf : onePixel.encodeImage.mem.wf = true := by decide +kernel
theorem onePixel_encoded_fits :
    ∀ cell ∈ onePixel.encodeImage.mem, fitByte Config.defaultParams cell.1 cell.2 = cell.2 := by decide +kernel
theorem onePixel_encoded_slots : 1 ≤ onePixel.encodeImage.rks.length ∧ onePixel.encodeImage.rks.length ≤ 62 := by
  decide +kernel
theorem onePixel_encoded_status : onePixel.encodeImage.status = State.reset.status := rfl
theorem onePixel_encoded_params : onePixel.encodeImage.params = Config.defaultParams := rfl
theorem complete_inv (s : State) (hparams : s.params = Config.defaultParams)
    (hslots : 1 ≤ s.rks.length ∧ s.rks.length ≤ 62) (hwf : s.mem.wf = true)
    (hfits : ∀ cell ∈ s.mem, fitByte Config.defaultParams cell.1 cell.2 = cell.2)
    (hstatus : s.status = State.reset.status) : s.complete.Inv where
  params := by
    show s.params.Legal
    rw [hparams]
    decide
  slots := hslots
  memWf := hwf
  memFits := by
    show ∀ cell ∈ s.mem, fitByte s.params cell.1 cell.2 = cell.2
    rw [hparams]
    exact hfits
  errcodeLegal := by
    simp only [State.complete, hstatus]
    decide
  errcodeZero := by
    simp only [State.complete, hstatus]
    decide
  doneIdle := by
    simp only [State.complete, hstatus]
    decide
  onlyErrclrPends := (nomatch ·)
theorem onePixel_encoded_inv : onePixel.encodeImage.complete.Inv :=
  complete_inv onePixel.encodeImage onePixel_encoded_params onePixel_encoded_slots onePixel_encoded_wf
    onePixel_encoded_fits onePixel_encoded_status
theorem witness_DecInvertsEnc : onePixel.Inv ∧ onePixel.DimsLegal ∧ onePixel.RoundsLegal ∧
    ∃ t u : State, exec .enc onePixel = .next t ∧ u.Inv ∧ u.params = t.params ∧ u.dimH = t.dimH ∧ u.dimW = t.dimW ∧
      u.rounds = t.rounds ∧ u.rmax = t.rmax ∧ (∀ r < t.roundCount, u.pair r = t.pair r) ∧ u.fk1 = t.fk1 ∧
      u.fk2 = t.fk2 ∧ SameImgWindow t u :=
  ⟨onePixel_inv, by decide, by decide, onePixel.encodeImage.complete, onePixel.encodeImage.complete, onePixel_encodes,
    onePixel_encoded_inv, rfl, rfl, rfl, rfl, rfl, fun _ _ => rfl, rfl, rfl, fun _ _ _ _ _ _ => rfl⟩
theorem witness_CompositesArePrimitivesInOrder : demo.Inv ∧ demo.DimsLegal ∧ demo.RoundsLegal :=
  ⟨demo_inv, by decide, by decide⟩
theorem witness_ScheduleMismatchIsSilent : demo.DimsLegal ∧ demo.RoundsLegal ∧
    (List.replicate 16 ({ k1 := keyOnes, k2 := keyOnes } : KeyPair)).length = demo.rmax ∧
    (Instr.dec = .uscr ∨ Instr.dec = .dec) := ⟨by decide, by decide, by decide, .inr rfl⟩
theorem witness_CommandsStayInTheActiveWindow : ∃ s' : State, demo.Inv ∧ s'.Inv ∧ s' = { demo with mem := s'.mem } ∧
    SameImgWindow demo s' ∧ SamePlnWindow demo s' :=
  ⟨demo, demo_inv, demo_inv, rfl, fun _ _ _ _ _ _ => rfl, fun _ _ _ _ _ _ => rfl⟩
theorem witness_CommandsWriteOnlyTheirColumn : exec .kfin demo = .next demo.finalPair.complete := rfl

end Sys2Proof.Tests
end

section
/-! PROOFS. The invariant in two halves: the storage (parameters, slots, canonical memory, fitting cells) and STATUS with
PEND. What keeps each half, then every step of the machine. -/

namespace Sys2Proof.Machine

/-! ### Cells that fit their elements -/

/-- Every cell names an element that exists and holds a byte that fits it (`20_memory.md` R57, R60). -/
def Memory.Fits (m : Memory) (params : Config.Params) : Prop := ∀ cell ∈ m, fitByte params cell.1 cell.2 = cell.2

theorem Memory.Fits.write {m : Memory} {params : Config.Params} (hm : m.Fits params) {a : Nat} {v : Byte}
    (hv : fitByte params a v = v) : Memory.Fits (m.write a v) params := fun cell hc => by
  obtain h | rfl := Memory.mem_write hc
  · exact hm cell h
  · exact hv

theorem Memory.Fits.writeAll {m cells : Memory} {params : Config.Params} (hm : m.Fits params)
    (hcells : cells.Fits params) : Memory.Fits (m.writeAll cells) params := fun cell hc =>
  (Memory.mem_writeAll hc).elim (hm cell) (hcells cell)

/-- A byte cut to its element fits it. -/
theorem fitByte_fitByte (params : Config.Params) (a : Nat) (v : Byte) :
    fitByte params a (fitByte params a v) = fitByte params a v := by
  simp only [fitByte]
  split
  · rfl
  · rw [BitVec.and_assoc, BitVec.and_self]
  · rfl

/-- Every byte fits a sample of IMG. -/
theorem fitByte_imgAddr {params : Config.Params} (hp : params.Legal) {c y x : Nat} (hc : c < 3) (hy : y < params.hmax)
    (hx : x < params.wmax) (v : Byte) : fitByte params (imgAddr c y x) v = v := by
  obtain ⟨-, hh, -, hw⟩ := hp
  rw [fitByte, decodeAddr_imgAddr hc hy hx (by omega) (by omega)]

/-- A plane bit fits an element of PLN. -/
theorem fitByte_plnAddr {params : Config.Params} (hp : params.Legal) {p y x : Nat} (hpl : p < 24)
    (hy : y < params.hmax) (hx : x < params.wmax) (b : Bool) :
    fitByte params (plnAddr p y x) (bitByte b) = bitByte b := by
  obtain ⟨-, hh, -, hw⟩ := hp
  rw [fitByte, decodeAddr_plnAddr hpl hy hx (by omega) (by omega)]
  cases b <;> rfl

/-- The cells of a window of IMG inside the storage fit. -/
theorem fits_imgCells {params : Config.Params} (hp : params.Legal) {h w : Nat} (hh : h ≤ params.hmax)
    (hw : w ≤ params.wmax) (f : Nat → Nat → Nat → Byte) :
    Memory.Fits (windowCells imgAddr channels h w f) params := fun cell hc => by
  obtain ⟨c, hcm, y, hy, x, hx, rfl⟩ := mem_windowCells.1 hc
  exact fitByte_imgAddr hp (mem_channels.1 hcm) (by omega) (by omega) _

/-- The cells of a window of planes inside the storage fit. -/
theorem fits_plnCells {params : Config.Params} (hp : params.Legal) {ps : List Nat} (hps : ∀ p ∈ ps, p < 24)
    {h w : Nat} (hh : h ≤ params.hmax) (hw : w ≤ params.wmax) (f : Nat → Nat → Nat → Bool) :
    Memory.Fits (windowCells plnAddr ps h w fun p y x => bitByte (f p y x)) params := fun cell hc => by
  obtain ⟨p, hp', y, hy, x, hx, rfl⟩ := mem_windowCells.1 hc
  exact fitByte_plnAddr hp (hps p hp') (by omega) (by omega) _

/-- An address that names a sample of IMG names one inside the storage (`20_memory.md` R54, R57). -/
theorem bounds_of_decodeAddr_img {params : Config.Params} {rmax a c y x : Nat}
    (h : decodeAddr params rmax a = some (.img c y x)) : c < 3 ∧ y < params.hmax ∧ x < params.wmax := by
  simp only [decodeAddr] at h
  split at h
  case h_3 =>
    split_ifs at h with hin
    cases h
    exact hin
  case h_5 => cases h
  all_goals
    split_ifs at h
    cases h

/-- An address that names a plane bit names one inside the storage (`20_memory.md` R54, R57). -/
theorem bounds_of_decodeAddr_pln {params : Config.Params} {rmax a p y x : Nat}
    (h : decodeAddr params rmax a = some (.pln p y x)) : p < 24 ∧ y < params.hmax ∧ x < params.wmax := by
  simp only [decodeAddr] at h
  split at h
  case h_4 =>
    split_ifs at h with hin
    cases h
    exact hin
  case h_5 => cases h
  all_goals
    split_ifs at h
    cases h

/-! ### The two halves of the invariant -/

/-- The half of `State.Inv` about the parameters and the stored elements. -/
structure State.StorageOk (s : State) : Prop where
  params : s.params.Legal
  slots : 1 ≤ s.rmax ∧ s.rmax ≤ 62
  memWf : s.mem.wf = true
  memFits : s.mem.Fits s.params

/-- The half of `State.Inv` about STATUS and PEND. -/
structure Status.Ok (st : Status) (pend : Word) : Prop where
  errcodeLegal : st.errcode.toNat ≤ 4
  errcodeZero : st.err = false ↔ st.errcode = 0
  doneIdle : st.done = true → st.busy = false ∧ st.err = false
  onlyErrclrPends : st.busy = true → st.err = true → pend = errclrWord

theorem State.inv_iff (s : State) : s.Inv ↔ s.StorageOk ∧ s.status.Ok s.pend :=
  ⟨fun h => ⟨⟨h.params, h.slots, h.memWf, h.memFits⟩,
      ⟨h.errcodeLegal, h.errcodeZero, h.doneIdle, h.onlyErrclrPends⟩⟩,
    fun ⟨hs, hst⟩ => ⟨hs.params, hs.slots, hs.memWf, hs.memFits,
      hst.errcodeLegal, hst.errcodeZero, hst.doneIdle, hst.onlyErrclrPends⟩⟩

theorem State.Inv.storage {s : State} (h : s.Inv) : s.StorageOk := (s.inv_iff.1 h).1

theorem State.Inv.statusOk {s : State} (h : s.Inv) : s.status.Ok s.pend := (s.inv_iff.1 h).2

/-- The storage half reads the parameters, the number of slots and the memory only. -/
theorem State.StorageOk.congr {s t : State} (h : s.StorageOk) (hparams : t.params = s.params) (hrmax : t.rmax = s.rmax)
    (hmem : t.mem = s.mem) : t.StorageOk where
  params := hparams ▸ h.params
  slots := hrmax ▸ h.slots
  memWf := hmem ▸ h.memWf
  memFits := hparams ▸ hmem ▸ h.memFits

/-- The invariant reads the parameters, the number of slots, the memory, STATUS and PEND only. -/
theorem State.Inv.congr {s t : State} (h : s.Inv) (hparams : t.params = s.params) (hrmax : t.rmax = s.rmax)
    (hmem : t.mem = s.mem) (hstatus : t.status = s.status) (hpend : t.pend = s.pend) : t.Inv :=
  t.inv_iff.2 ⟨h.storage.congr hparams hrmax hmem, hstatus ▸ hpend ▸ h.statusOk⟩

/-! ### STATUS -/

theorem ErrCode.code_legal (e : ErrCode) : e.code.toNat ≤ 4 ∧ e.code ≠ 0 := by
  cases e <;> decide

/-- STATUS after a reset (`10_state.md` R37). -/
theorem Status.ok_cleared (pend : Word) : Status.Ok { busy := false, done := false, err := false, errcode := 0 } pend :=
  ⟨by simp, by simp, by simp, by simp⟩

/-- An acceptance: the word is ERRCLR's while ERR is 1 (`10_state.md` R22). -/
theorem Status.Ok.accept {st : Status} {pend w : Word} (h : st.Ok pend) (hw : st.err = true → w = errclrWord) :
    st.accept.Ok w :=
  ⟨h.errcodeLegal, h.errcodeZero, by simp, fun _ => hw⟩

/-- An abort keeps DONE, which is 0 while BUSY is 1 (`60_exceptions.md` R192). -/
theorem Status.Ok.raise {st : Status} {pend : Word} (h : st.Ok pend) (hbusy : st.busy = true) (e : ErrCode) :
    (st.raise e).Ok pend where
  errcodeLegal := e.code_legal.1
  errcodeZero := iff_of_false (by simp) e.code_legal.2
  doneIdle hdone := absurd (h.doneIdle hdone).1 (by simp [hbusy])
  onlyErrclrPends := by simp

/-- A completion with no error recorded (`10_state.md` R33 case b). -/
theorem Status.Ok.complete {st : Status} {pend : Word} (h : st.Ok pend) (herr : st.err = false) :
    st.complete.Ok pend :=
  ⟨h.errcodeLegal, h.errcodeZero, fun _ => ⟨rfl, herr⟩, by simp⟩

/-- ERRCLR clears ERR and ERRCODE and completes (`45_pipeline_system.md` R176). -/
theorem Status.ok_clearError_complete (st : Status) (pend : Word) : st.clearError.complete.Ok pend :=
  ⟨by simp, by simp, by simp, by simp⟩

/-! ### The data operations of one command -/

/-- `u` is a state the data operations of a command may have reached from `s`: the storage half of the invariant holds,
an image size that was legal still is, STATUS and PEND are untouched. -/
structure State.DataReach (s u : State) : Prop where
  storage : u.StorageOk
  dims : s.DimsLegal → u.DimsLegal
  status : u.status = s.status
  pend : u.pend = s.pend

theorem State.DataReach.refl {s : State} (h : s.StorageOk) : s.DataReach s := ⟨h, id, rfl, rfl⟩

namespace State.DataReach

variable {s u : State}

/-! The operations on key registers. -/

theorem updateKeys (h : s.DataReach u) : s.DataReach u.updateKeys :=
  ⟨h.storage.congr u.updateKeys_params u.updateKeys_rmax u.updateKeys_mem,
    fun hd => by simpa [State.DimsLegal] using h.dims hd, u.updateKeys_status.trans h.status,
    u.updateKeys_pend.trans h.pend⟩

theorem loadPair (h : s.DataReach u) (r : Nat) : s.DataReach (u.loadPair r) :=
  ⟨h.storage.congr rfl rfl rfl, h.dims, h.status, h.pend⟩

theorem finalPair (h : s.DataReach u) : s.DataReach u.finalPair :=
  ⟨h.storage.congr rfl rfl rfl, h.dims, h.status, h.pend⟩

theorem storePair (h : s.DataReach u) (r : Nat) : s.DataReach (u.storePair r) :=
  ⟨h.storage.congr rfl (u.storePair_rmax r) rfl, h.dims, h.status, h.pend⟩

/-! Replacing a window: the image size is legal, so the window lies inside the storage. -/

theorem setImgWindow (h : s.DataReach u) (hd : s.DimsLegal) (f : Nat → Nat → Nat → Byte) :
    s.DataReach (u.setImgWindow f) := by
  obtain ⟨-, hh, -, hw⟩ := h.dims hd
  have hfits := h.storage.memFits.writeAll (fits_imgCells h.storage.params hh hw f)
  exact ⟨⟨h.storage.params, h.storage.slots, State.wf_setImgWindow h.storage.memWf f, hfits⟩, h.dims, h.status, h.pend⟩

theorem setPlnWindow (h : s.DataReach u) (hd : s.DimsLegal) {ps : List Nat} (hps : ∀ p ∈ ps, p < 24)
    (f : Nat → Nat → Nat → Bool) : s.DataReach (u.setPlnWindow ps f) := by
  obtain ⟨-, hh, -, hw⟩ := h.dims hd
  have hfits := h.storage.memFits.writeAll (fits_plnCells h.storage.params hps hh hw f)
  exact ⟨⟨h.storage.params, h.storage.slots, State.wf_setPlnWindow h.storage.memWf ps f, hfits⟩,
    h.dims, h.status, h.pend⟩

theorem rowPass (h : s.DataReach u) (hd : s.DimsLegal) (dir : Dir) : s.DataReach (u.rowPass dir) :=
  h.setImgWindow hd _

theorem colPass (h : s.DataReach u) (hd : s.DimsLegal) (dir : Dir) : s.DataReach (u.colPass dir) :=
  h.setImgWindow hd _

theorem recompose (h : s.DataReach u) (hd : s.DimsLegal) : s.DataReach u.recompose := h.setImgWindow hd _

theorem decompose (h : s.DataReach u) (hd : s.DimsLegal) : s.DataReach u.decompose :=
  h.setPlnWindow hd (fun _ => mem_planes.1) _

theorem shuffle (h : s.DataReach u) (hd : s.DimsLegal) : s.DataReach u.shuffle :=
  h.setPlnWindow hd (fun _ => mem_planes.1) _

theorem rotateAll (h : s.DataReach u) (hd : s.DimsLegal) (dir : Dir) : s.DataReach (u.rotateAll dir) :=
  h.setPlnWindow hd (fun _ => mem_planes.1) _

theorem rotatePlane (h : s.DataReach u) (hd : s.DimsLegal) {p : Nat} (hp : PlaneLegal p) (steps : Int) :
    s.DataReach (u.rotatePlane p steps) :=
  h.setPlnWindow hd (fun _ hq => List.mem_singleton.1 hq ▸ hp) _

/-! The round sequences and the pipelines built of them. -/

/-- A sequence of rounds, each of which is a sequence of data operations. -/
theorem foldl {round : State → Nat → State} (hround : ∀ v r, s.DataReach v → s.DataReach (round v r))
    (rs : List Nat) (h : s.DataReach u) : s.DataReach (rs.foldl round u) := by
  induction rs generalizing u with
  | nil => exact h
  | cons r rs ih => exact ih (hround u r h)

theorem scramble (h : s.DataReach u) (hd : s.DimsLegal) : s.DataReach u.scramble :=
  (foldl (fun _ r hv => (((hv.storePair r).rowPass hd .fwd).colPass hd .fwd).updateKeys) _ h).finalPair

theorem unscramble (h : s.DataReach u) (hd : s.DimsLegal) : s.DataReach u.unscramble :=
  foldl (fun _ r hv => ((hv.loadPair r).colPass hd .inv).rowPass hd .inv) _ h

theorem encodeImage (h : s.DataReach u) (hd : s.DimsLegal) : s.DataReach u.encodeImage :=
  ((((h.scramble hd).decompose hd).rotateAll hd .fwd).shuffle hd).recompose hd

theorem decodeImage (h : s.DataReach u) (hd : s.DimsLegal) : s.DataReach u.decodeImage :=
  ((((h.decompose hd).shuffle hd).rotateAll hd .inv).recompose hd).unscramble hd

end State.DataReach

/-! ### The Engine step -/

/-- The outcome of a command that is not ERRCLR: an abort, or data operations and a completion (`10_state.md` R33). -/
def State.Finishes (s : State) (o : Outcome) : Prop :=
  (∃ e, o = .next (s.raise e)) ∨ ∃ u, s.DataReach u ∧ o = .next u.complete

theorem State.DataReach.finishes {s u : State} (h : s.DataReach u) : s.Finishes (.next u.complete) :=
  .inr ⟨u, h, rfl⟩

theorem State.finishes_withDims {s : State} {go : Outcome} (h : s.DimsLegal → s.Finishes go) :
    s.Finishes (s.withDims go) := by
  obtain ⟨hd, ho⟩ | ⟨-, ho⟩ := s.withDims_cases go
  · rw [ho]
    exact h hd
  · exact .inl ⟨_, ho⟩

theorem State.finishes_withPlane {s : State} {p : Nat} {go : Outcome} (h : PlaneLegal p → s.Finishes go) :
    s.Finishes (s.withPlane p go) := by
  obtain ⟨hp, ho⟩ | ⟨-, ho⟩ := s.withPlane_cases p go
  · rw [ho]
    exact h hp
  · exact .inl ⟨_, ho⟩

theorem State.finishes_withRounds {s : State} {go : Outcome} (h : s.Finishes go) : s.Finishes (s.withRounds go) := by
  obtain ⟨-, ho⟩ | ⟨-, ho⟩ := s.withRounds_cases go
  · rw [ho]
    exact h
  · exact .inl ⟨_, ho⟩

theorem State.finishes_withSlot {s : State} {r : Nat} {go : Outcome} (h : s.Finishes go) :
    s.Finishes (s.withSlot r go) := by
  obtain ⟨-, ho⟩ | ⟨-, ho⟩ := s.withSlot_cases r go
  · rw [ho]
    exact h
  · exact .inl ⟨_, ho⟩

/-- Every command but ERRCLR aborts, or completes after data operations that keep the storage half of the invariant. -/
theorem exec_finishes {s : State} (h : s.StorageOk) {i : Instr} (hi : i ≠ .errclr) : s.Finishes (exec i s) := by
  have h0 : s.DataReach s := .refl h
  cases i with
  | nop => exact h0.finishes
  | errclr => exact absurd rfl hi
  | decomp => exact State.finishes_withDims fun hd => (h0.decompose hd).finishes
  | recomp => exact State.finishes_withDims fun hd => (h0.recompose hd).finishes
  | rowp dir => exact State.finishes_withDims fun hd => (h0.rowPass hd dir).finishes
  | colp dir => exact State.finishes_withDims fun hd => (h0.colPass hd dir).finishes
  | kupd => exact h0.updateKeys.finishes
  | kst r => exact State.finishes_withSlot (h0.storePair r).finishes
  | kld r => exact State.finishes_withSlot (h0.loadPair r).finishes
  | kfin => exact h0.finalPair.finishes
  | scr => exact State.finishes_withDims fun hd => State.finishes_withRounds (h0.scramble hd).finishes
  | uscr => exact State.finishes_withDims fun hd => State.finishes_withRounds (h0.unscramble hd).finishes
  | frot p steps =>
    exact State.finishes_withDims fun hd => State.finishes_withPlane fun hp => (h0.rotatePlane hd hp steps).finishes
  | frotk p dir =>
    exact State.finishes_withDims fun hd => State.finishes_withPlane fun hp => (h0.rotatePlane hd hp _).finishes
  | frota dir => exact State.finishes_withDims fun hd => (h0.rotateAll hd dir).finishes
  | pshuf => exact State.finishes_withDims fun hd => (h0.shuffle hd).finishes
  | enc => exact State.finishes_withDims fun hd => State.finishes_withRounds (h0.encodeImage hd).finishes
  | dec => exact State.finishes_withDims fun hd => State.finishes_withRounds (h0.decodeImage hd).finishes

theorem State.Inv.raise {s : State} (h : s.Inv) (hbusy : s.status.busy = true) (e : ErrCode) : (s.raise e).Inv :=
  (State.inv_iff _).2 ⟨h.storage.congr rfl rfl rfl, h.statusOk.raise hbusy e⟩

theorem State.Inv.clearError_complete {s : State} (h : s.Inv) : s.clearError.complete.Inv :=
  (State.inv_iff _).2 ⟨h.storage.congr rfl rfl rfl, Status.ok_clearError_complete _ _⟩

/-- Completing after data operations, no error being recorded, keeps the invariant. -/
theorem State.Inv.complete_of_dataReach {s u : State} (h : s.Inv) (herr : s.status.err = false) (hu : s.DataReach u) :
    u.complete.Inv :=
  (State.inv_iff _).2 ⟨hu.storage.congr rfl rfl rfl, (hu.status ▸ hu.pend ▸ h.statusOk).complete (hu.status ▸ herr)⟩

theorem decode_errclrWord : decode errclrWord = .ok .errclr := rfl

/-- A pending command other than ERRCLR runs with no error recorded (`60_exceptions.md` R201). -/
theorem State.Inv.err_eq_false {s : State} (h : s.Inv) (hbusy : s.status.busy = true) {i : Instr}
    (hdec : decode s.pend = .ok i) (hi : i ≠ .errclr) : s.status.err = false := by
  refine Bool.eq_false_iff.2 fun herr => hi ?_
  rw [h.onlyErrclrPends hbusy herr, decode_errclrWord] at hdec
  exact (Except.ok.inj hdec).symm

/-- The effect of the pending command keeps the invariant. -/
theorem exec_keeps_inv {s t : State} (h : s.Inv) (hbusy : s.status.busy = true) {i : Instr}
    (hdec : decode s.pend = .ok i) (hexec : exec i s = .next t) : t.Inv := by
  by_cases hi : i = .errclr
  · subst hi
    obtain rfl := Host.Outcome.next.inj hexec
    exact h.clearError_complete
  · obtain ⟨e, ho⟩ | ⟨u, hu, ho⟩ := exec_finishes h.storage hi
    · obtain rfl := Host.Outcome.next.inj (ho.symm.trans hexec)
      exact h.raise hbusy e
    · obtain rfl := Host.Outcome.next.inj (ho.symm.trans hexec)
      exact h.complete_of_dataReach (h.err_eq_false hbusy hdec hi) hu

theorem State.fetch_eq_some {s : State} {w : Word} : s.fetch = some w ↔ s.status.busy = true ∧ s.pend = w := by
  simp [State.fetch]

theorem engineStep_keeps_inv {s t : State} (h : s.Inv) {w : Word} (hfetch : s.fetch = some w)
    (hstep : s.engineStep w = .next t) : t.Inv := by
  obtain ⟨hbusy, rfl⟩ := State.fetch_eq_some.1 hfetch
  obtain ⟨i, hdec, ho⟩ | ⟨_, -, ho⟩ := s.engineStep_cases s.pend
  · exact exec_keeps_inv h hbusy hdec (ho.symm.trans hstep)
  · obtain rfl := Host.Outcome.next.inj (ho.symm.trans hstep)
    exact h.raise hbusy _

/-! ### The completed transaction -/

/-- A CMD write is discarded, or accepted: with ERR 1 only the ERRCLR word (`10_state.md` R22). -/
theorem State.writeCmd_cases (s : State) (w : Word) :
    s.writeCmd w = s ∨ ((s.status.err = true → w = errclrWord) ∧ s.writeCmd w = s.accept w) := by
  by_cases hdrop : s.status.err = true ∧ w ≠ errclrWord
  · exact .inl (if_pos hdrop)
  · exact .inr ⟨fun herr => not_not.1 fun hw => hdrop ⟨herr, hw⟩, if_neg hdrop⟩

theorem State.Inv.writeCmd {s : State} (h : s.Inv) (w : Word) : (s.writeCmd w).Inv := by
  obtain ho | ⟨hw, ho⟩ := s.writeCmd_cases w
  · rw [ho]
    exact h
  · rw [ho]
    exact (State.inv_iff _).2 ⟨h.storage.congr rfl rfl rfl, h.statusOk.accept hw⟩

theorem State.Inv.writeCsr {s : State} (h : s.Inv) (n : Nat) (w : Word) : (s.writeCsr n w).Inv := by
  simp only [State.writeCsr]
  split
  · exact h.writeCmd w
  · exact h.congr rfl rfl rfl rfl rfl
  · exact h.congr rfl rfl rfl rfl rfl
  · exact h.congr rfl rfl rfl rfl rfl
  · exact h

theorem State.Inv.setKey {s : State} (h : s.Inv) (slot : Nat) (k : Key) : (s.setKey slot k).Inv := by
  simp only [State.setKey]
  split
  case h_5 => exact h.congr rfl (State.setPair_rmax ..) rfl rfl rfl
  all_goals exact h.congr rfl rfl rfl rfl rfl

/-- One byte stored in an element it fits. -/
theorem State.Inv.writeMem {s : State} (h : s.Inv) {a : Nat} {v : Byte} (hv : fitByte s.params a v = v) :
    State.Inv { s with mem := s.mem.write a v } :=
  (State.inv_iff _).2 ⟨⟨h.params, h.slots, Memory.wf_write h.memWf a v, h.storage.memFits.write hv⟩, h.statusOk⟩

/-- A write through the port of an element that an address names. -/
theorem State.Inv.writeElement {s : State} (h : s.Inv) {addr : Word} {e : Element} (he : s.element addr = some e)
    (w : Word) : (s.writeElement e w).Inv := by
  cases e with
  | csr n => exact h.writeCsr n w
  | keyBit slot i => exact h.setKey slot _
  | img c y x =>
    obtain ⟨hc, hy, hx⟩ := bounds_of_decodeAddr_img he
    exact h.writeMem (fitByte_imgAddr h.params hc hy hx _)
  | pln p y x =>
    obtain ⟨hp, hy, hx⟩ := bounds_of_decodeAddr_pln he
    exact h.writeMem (fitByte_plnAddr h.params hp hy hx _)

/-- A completed transaction keeps the invariant. -/
theorem State.Inv.transact {s : State} (h : s.Inv) (tr : Transaction) : (s.transact tr).Inv := by
  cases tr with
  | read addr =>
    simp only [State.transact]
    split
    · exact h.congr rfl rfl rfl rfl rfl
    · exact h.congr rfl rfl rfl rfl rfl
  | write addr w =>
    simp only [State.transact]
    split
    case h_1 e he => exact (h.writeElement he w).congr rfl rfl rfl rfl rfl
    case h_2 => exact h.congr rfl rfl rfl rfl rfl

/-! ### Reset -/

/-- The free contents a reset leaves fit their elements. -/
theorem State.fits_residueMem (s : State) : s.residueMem.Fits s.params := by
  refine Memory.Fits.writeAll (fun _ hc => nomatch hc) fun cell hc => ?_
  obtain ⟨free, -, rfl⟩ := List.mem_map.1 hc
  exact fitByte_fitByte _ _ _

/-- What a reset leaves fits: an abandoned command's window is cut to the storage. -/
theorem State.fits_memAfterReset {s : State} (hp : s.params.Legal) : s.memAfterReset.Fits s.params := by
  simp only [State.memAfterReset]
  split
  · exact s.fits_residueMem.writeAll (fits_imgCells hp (Nat.min_le_right ..) (Nat.min_le_right ..) _)
  · exact s.fits_residueMem.writeAll
      (fits_plnCells hp (fun _ => mem_planes.1) (Nat.min_le_right ..) (Nat.min_le_right ..) _)
  · exact s.fits_residueMem

@[simp] theorem State.resetEdge_rmax (s : State) : s.resetEdge.rmax = s.rmax := by
  simp [State.rmax, State.resetEdge, State.powerUp, State.storageAfterReset]

/-- A reset edge keeps the invariant. -/
theorem State.Inv.resetEdge {s : State} (h : s.Inv) : s.resetEdge.Inv :=
  (State.inv_iff _).2 ⟨⟨h.params, s.resetEdge_rmax ▸ h.slots, s.wf_memAfterReset, State.fits_memAfterReset h.params⟩,
    Status.ok_cleared _⟩

/-! ### The step -/

/-- Settles O8: what a step did, by `step_cases`, is an Engine step, a completed transaction, a new request, a reset or
nothing, and each of them keeps the invariant. -/
theorem stepKeepsInv : Obligations.StepKeepsInv := by
  intro s t h hstep
  obtain ⟨rest, u, hu, hcases⟩ := step_cases hstep
  have hinv : u.Inv := hu ▸ h.congr rfl rfl rfl rfl rfl
  obtain ⟨w, hfetch, hengine⟩ | ⟨tr, -, -, rfl⟩ | ⟨tr, -, rfl⟩ | ⟨-, rfl⟩ | rfl := hcases
  · exact engineStep_keeps_inv hinv hfetch hengine
  · exact hinv.transact tr
  · exact hinv.congr rfl rfl rfl rfl rfl
  · exact hinv.resetEdge
  · exact hinv

end Sys2Proof.Machine
end

section
/-! PROOFS. Which state a command writes: the "writes" column of the table of `10_state.md` R36, and that no data
operation of a command leaves its column. -/

namespace Sys2Proof.Machine

/-! ### What a command may write -/

/-- The storage a command may write: the pair K1, K2, the pair FK1, FK2, slots of RKS, and cells of IMG and PLN by
their address. -/
structure WriteSet where
  keys : Prop := False
  finalKeys : Prop := False
  slot : Nat → Prop := fun _ => False
  cell : Nat → Prop := fun _ => False

/-- The "writes" column of the table of `10_state.md` R36; a plane that does not exist has no cells. -/
def State.column (s : State) : Instr → WriteSet
  | .nop => {}
  | .errclr => {}
  | .decomp => { cell := s.InPlnWindow }
  | .recomp => { cell := s.InImgWindow }
  | .rowp _ => { cell := s.InImgWindow }
  | .colp _ => { cell := s.InImgWindow }
  | .kupd => { keys := True }
  | .kst r => { slot := (· = r) }
  | .kld _ => { keys := True }
  | .kfin => { finalKeys := True }
  | .scr => { keys := True, finalKeys := True, slot := (· < s.roundCount), cell := s.InImgWindow }
  | .uscr => { keys := True, cell := s.InImgWindow }
  | .frot p _ => { cell := fun a => p < 24 ∧ s.InPlaneWindow p a }
  | .frotk p _ => { cell := fun a => p < 24 ∧ s.InPlaneWindow p a }
  | .frota _ => { cell := s.InPlnWindow }
  | .pshuf => { cell := s.InPlnWindow }
  | .enc =>
    { keys := True, finalKeys := True, slot := (· < s.roundCount), cell := fun a => s.InImgWindow a ∨ s.InPlnWindow a }
  | .dec => { keys := True, cell := fun a => s.InImgWindow a ∨ s.InPlnWindow a }

/-- `u` differs from `s` in STATUS and in the storage `ws` names, at most. -/
structure State.AltersOnly (ws : WriteSet) (s u : State) : Prop where
  rest : ∃ (st : Status) (c : Storage),
    u = { s with status := st, k1 := c.k1, k2 := c.k2, fk1 := c.fk1, fk2 := c.fk2, rks := c.rks, mem := c.mem }
  rmax : u.rmax = s.rmax
  keys : ¬ ws.keys → u.k1 = s.k1 ∧ u.k2 = s.k2
  finalKeys : ¬ ws.finalKeys → u.fk1 = s.fk1 ∧ u.fk2 = s.fk2
  slot : ∀ q, ¬ ws.slot q → u.pair q = s.pair q
  cell : ∀ a, ¬ ws.cell a → u.mem.read a = s.mem.read a

theorem State.AltersOnly.refl (ws : WriteSet) (s : State) : s.AltersOnly ws s :=
  ⟨⟨s.status, ⟨s.k1, s.k2, s.fk1, s.fk2, s.rks, s.mem⟩, rfl⟩, rfl, fun _ => ⟨rfl, rfl⟩, fun _ => ⟨rfl, rfl⟩,
    fun _ _ => rfl, fun _ _ => rfl⟩

/-- A slot other than the one stored to keeps its pair. -/
theorem State.pair_setPair_of_ne (s : State) {r q : Nat} (h : q ≠ r) (pair : KeyPair) :
    (s.setPair r pair).pair q = s.pair q := by
  simp [State.pair, State.setPair, List.getD_eq_getElem?_getD, List.getElem?_set_ne h.symm]

namespace State.AltersOnly

variable {ws : WriteSet} {s u : State}

theorem height (h : s.AltersOnly ws u) : u.height = s.height := by
  obtain ⟨_, _, rfl⟩ := h.rest
  rfl

theorem width (h : s.AltersOnly ws u) : u.width = s.width := by
  obtain ⟨_, _, rfl⟩ := h.rest
  rfl

theorem roundCount (h : s.AltersOnly ws u) : u.roundCount = s.roundCount := by
  obtain ⟨_, _, rfl⟩ := h.rest
  rfl

theorem port (h : s.AltersOnly ws u) : u.port = s.port := by
  obtain ⟨_, _, rfl⟩ := h.rest
  rfl

theorem agenda (h : s.AltersOnly ws u) : u.agenda = s.agenda := by
  obtain ⟨_, _, rfl⟩ := h.rest
  rfl

/-! The operations on STATUS. -/

/-- STATUS is in no column: every command may write it. -/
theorem withStatus (h : s.AltersOnly ws u) (st : Status) : s.AltersOnly ws { u with status := st } := by
  obtain ⟨_, c, hu⟩ := h.rest
  exact ⟨⟨st, c, by rw [hu]⟩, h.rmax, h.keys, h.finalKeys, h.slot, h.cell⟩

theorem complete (h : s.AltersOnly ws u) : s.AltersOnly ws u.complete := h.withStatus _

theorem raise (h : s.AltersOnly ws u) (e : ErrCode) : s.AltersOnly ws (u.raise e) := h.withStatus _

theorem clearError (h : s.AltersOnly ws u) : s.AltersOnly ws u.clearError := h.withStatus _

/-! The operations on key registers. -/

/-- K1 and K2 replaced. -/
theorem withKeys (h : s.AltersOnly ws u) (hws : ws.keys) (k1 k2 : Key) :
    s.AltersOnly ws { u with k1 := k1, k2 := k2 } := by
  obtain ⟨st, c, hu⟩ := h.rest
  exact ⟨⟨st, { c with k1 := k1, k2 := k2 }, by rw [hu]⟩, h.rmax, fun hnot => absurd hws hnot,
    h.finalKeys, h.slot, h.cell⟩

theorem updateKeys (h : s.AltersOnly ws u) (hws : ws.keys) : s.AltersOnly ws u.updateKeys := h.withKeys hws _ _

theorem loadPair (h : s.AltersOnly ws u) (hws : ws.keys) (r : Nat) : s.AltersOnly ws (u.loadPair r) :=
  h.withKeys hws _ _

theorem finalPair (h : s.AltersOnly ws u) (hws : ws.finalKeys) : s.AltersOnly ws u.finalPair := by
  obtain ⟨st, c, hu⟩ := h.rest
  exact ⟨⟨st, { c with fk1 := u.k1, fk2 := u.k2 }, by rw [State.finalPair, hu]⟩, h.rmax, h.keys,
    fun hnot => absurd hws hnot, h.slot, h.cell⟩

theorem storePair (h : s.AltersOnly ws u) {r : Nat} (hws : ws.slot r) : s.AltersOnly ws (u.storePair r) := by
  obtain ⟨st, c, hu⟩ := h.rest
  refine ⟨⟨st, { c with rks := (u.storePair r).rks }, ?_⟩, (u.storePair_rmax r).trans h.rmax, h.keys, h.finalKeys,
    fun q hq => ?_, h.cell⟩
  · rw [State.storePair, State.setPair, hu]
  · have hne : q ≠ r := fun heq => hq (heq ▸ hws)
    exact (u.pair_setPair_of_ne hne _).trans (h.slot q hq)

/-! Replacing a window. -/

theorem setImgWindow (h : s.AltersOnly ws u) (hws : ∀ a, s.InImgWindow a → ws.cell a) (f : Nat → Nat → Nat → Byte) :
    s.AltersOnly ws (u.setImgWindow f) := by
  obtain ⟨st, c, hu⟩ := h.rest
  refine ⟨⟨st, { c with mem := (u.setImgWindow f).mem }, ?_⟩, h.rmax, h.keys, h.finalKeys, h.slot, fun a ha => ?_⟩
  · rw [State.setImgWindow, hu]
  · refine (u.setImgWindow_read_of_not_mem f fun g y x hg hy hx heq => ha (hws a ?_)).trans (h.cell a ha)
    exact ⟨g, y, x, hg, h.height ▸ hy, h.width ▸ hx, heq⟩

theorem setPlnWindow (h : s.AltersOnly ws u) {ps : List Nat} (hws : ∀ p ∈ ps, ∀ a, s.InPlaneWindow p a → ws.cell a)
    (f : Nat → Nat → Nat → Bool) : s.AltersOnly ws (u.setPlnWindow ps f) := by
  obtain ⟨st, c, hu⟩ := h.rest
  refine ⟨⟨st, { c with mem := (u.setPlnWindow ps f).mem }, ?_⟩, h.rmax, h.keys, h.finalKeys, h.slot, fun a ha => ?_⟩
  · rw [State.setPlnWindow, hu]
  · refine (u.setPlnWindow_read_of_not_mem ps f fun p y x hp hy hx heq => ha (hws p hp a ?_)).trans (h.cell a ha)
    exact ⟨y, x, h.height ▸ hy, h.width ▸ hx, heq⟩

/-- Replacing the window of all 24 planes. -/
theorem setPlanes (h : s.AltersOnly ws u) (hws : ∀ a, s.InPlnWindow a → ws.cell a) (f : Nat → Nat → Nat → Bool) :
    s.AltersOnly ws (u.setPlnWindow planes f) :=
  h.setPlnWindow (fun p hp a ha => hws a ⟨p, mem_planes.1 hp, ha⟩) f

theorem rowPass (h : s.AltersOnly ws u) (hws : ∀ a, s.InImgWindow a → ws.cell a) (dir : Dir) :
    s.AltersOnly ws (u.rowPass dir) := h.setImgWindow hws _

theorem colPass (h : s.AltersOnly ws u) (hws : ∀ a, s.InImgWindow a → ws.cell a) (dir : Dir) :
    s.AltersOnly ws (u.colPass dir) := h.setImgWindow hws _

theorem recompose (h : s.AltersOnly ws u) (hws : ∀ a, s.InImgWindow a → ws.cell a) : s.AltersOnly ws u.recompose :=
  h.setImgWindow hws _

theorem decompose (h : s.AltersOnly ws u) (hws : ∀ a, s.InPlnWindow a → ws.cell a) : s.AltersOnly ws u.decompose :=
  h.setPlanes hws _

theorem shuffle (h : s.AltersOnly ws u) (hws : ∀ a, s.InPlnWindow a → ws.cell a) : s.AltersOnly ws u.shuffle :=
  h.setPlanes hws _

theorem rotateAll (h : s.AltersOnly ws u) (hws : ∀ a, s.InPlnWindow a → ws.cell a) (dir : Dir) :
    s.AltersOnly ws (u.rotateAll dir) := h.setPlanes hws _

/-! The sequences built of them. -/

theorem scramble (h : s.AltersOnly ws u) (hkeys : ws.keys) (hfinal : ws.finalKeys)
    (hslot : ∀ q < s.roundCount, ws.slot q) (himg : ∀ a, s.InImgWindow a → ws.cell a) :
    s.AltersOnly ws u.scramble := by
  refine (List.foldlRecOn _ _ h fun v hv r hr => ?_).finalPair hfinal
  have hr : r < s.roundCount := h.roundCount ▸ List.mem_range.1 hr
  exact (((hv.storePair (hslot r hr)).rowPass himg .fwd).colPass himg .fwd).updateKeys hkeys

theorem unscramble (h : s.AltersOnly ws u) (hkeys : ws.keys) (himg : ∀ a, s.InImgWindow a → ws.cell a) :
    s.AltersOnly ws u.unscramble :=
  List.foldlRecOn _ _ h fun _ hv r _ => ((hv.loadPair hkeys r).colPass himg .inv).rowPass himg .inv

theorem encodeImage (h : s.AltersOnly ws u) (hkeys : ws.keys) (hfinal : ws.finalKeys)
    (hslot : ∀ q < s.roundCount, ws.slot q) (himg : ∀ a, s.InImgWindow a → ws.cell a)
    (hpln : ∀ a, s.InPlnWindow a → ws.cell a) : s.AltersOnly ws u.encodeImage :=
  ((((h.scramble hkeys hfinal hslot himg).decompose hpln).rotateAll hpln .fwd).shuffle hpln).recompose himg

theorem decodeImage (h : s.AltersOnly ws u) (hkeys : ws.keys) (himg : ∀ a, s.InImgWindow a → ws.cell a)
    (hpln : ∀ a, s.InPlnWindow a → ws.cell a) : s.AltersOnly ws u.decodeImage :=
  ((((h.decompose hpln).shuffle hpln).rotateAll hpln .inv).recompose himg).unscramble hkeys himg

end State.AltersOnly

/-! ### The outcome of a command -/

/-- The outcome is a next state with BUSY 0 that keeps to the write set. -/
def State.EndsWithin (ws : WriteSet) (s : State) (o : Outcome) : Prop :=
  ∃ t, o = .next t ∧ t.status.busy = false ∧ s.AltersOnly ws t

section
variable {ws : WriteSet} {s u : State}

theorem State.AltersOnly.endsWithin (h : s.AltersOnly ws u) : s.EndsWithin ws (.next u.complete) :=
  ⟨_, rfl, rfl, h.complete⟩

theorem State.endsWithin_raise (ws : WriteSet) (s : State) (e : ErrCode) : s.EndsWithin ws (.next (s.raise e)) :=
  ⟨_, rfl, rfl, (State.AltersOnly.refl ws s).raise e⟩

theorem State.endsWithin_guard {P : Prop} [Decidable P] {go : Outcome} (h : P → s.EndsWithin ws go) (e : ErrCode) :
    s.EndsWithin ws (if P then go else .next (s.raise e)) := by
  split
  · exact h ‹P›
  · exact s.endsWithin_raise ws e

theorem State.endsWithin_withDims {go : Outcome} (h : s.EndsWithin ws go) : s.EndsWithin ws (s.withDims go) :=
  State.endsWithin_guard (fun _ => h) .dim

theorem State.endsWithin_withRounds {go : Outcome} (h : s.EndsWithin ws go) : s.EndsWithin ws (s.withRounds go) :=
  State.endsWithin_guard (fun _ => h) .rounds

theorem State.endsWithin_withSlot {r : Nat} {go : Outcome} (h : s.EndsWithin ws go) :
    s.EndsWithin ws (s.withSlot r go) :=
  State.endsWithin_guard (fun _ => h) .rounds

theorem State.endsWithin_withPlane {p : Nat} {go : Outcome} (h : PlaneLegal p → s.EndsWithin ws go) :
    s.EndsWithin ws (s.withPlane p go) :=
  State.endsWithin_guard h .plane

/-- FROT and FROTK write the window of their plane, if it exists. -/
theorem State.endsWithin_rotatePlane (s : State) (p : Nat) (steps : Int) :
    s.EndsWithin { cell := fun a => p < 24 ∧ s.InPlaneWindow p a }
      (s.withDims (s.withPlane p (.next (s.rotatePlane p steps).complete))) :=
  State.endsWithin_withDims <| State.endsWithin_withPlane fun hp => by
    refine ((State.AltersOnly.refl _ s).setPlnWindow (fun q hq a ha => ?_) _).endsWithin
    rw [List.mem_singleton.1 hq] at ha
    exact ⟨hp, ha⟩

/-- Every command ends with BUSY 0 and writes nothing but STATUS and its column of `10_state.md` R36. -/
theorem exec_endsWithin_column (i : Instr) (s : State) : s.EndsWithin (s.column i) (exec i s) := by
  have h : s.AltersOnly (s.column i) s := .refl _ s
  cases i with
  | nop => exact h.endsWithin
  | errclr => exact h.clearError.endsWithin
  | decomp => exact State.endsWithin_withDims (h.decompose fun _ => id).endsWithin
  | recomp => exact State.endsWithin_withDims (h.recompose fun _ => id).endsWithin
  | rowp dir => exact State.endsWithin_withDims (h.rowPass (fun _ => id) dir).endsWithin
  | colp dir => exact State.endsWithin_withDims (h.colPass (fun _ => id) dir).endsWithin
  | kupd => exact (h.updateKeys trivial).endsWithin
  | kst r => exact State.endsWithin_withSlot (h.storePair rfl).endsWithin
  | kld r => exact State.endsWithin_withSlot (h.loadPair trivial r).endsWithin
  | kfin => exact (h.finalPair trivial).endsWithin
  | scr =>
    exact State.endsWithin_withDims <| State.endsWithin_withRounds
      (h.scramble trivial trivial (fun _ => id) fun _ => id).endsWithin
  | uscr =>
    exact State.endsWithin_withDims <| State.endsWithin_withRounds (h.unscramble trivial fun _ => id).endsWithin
  | frot p steps => exact s.endsWithin_rotatePlane p steps
  | frotk p dir => exact s.endsWithin_rotatePlane p _
  | frota dir => exact State.endsWithin_withDims (h.rotateAll (fun _ => id) dir).endsWithin
  | pshuf => exact State.endsWithin_withDims (h.shuffle fun _ => id).endsWithin
  | enc =>
    exact State.endsWithin_withDims <| State.endsWithin_withRounds
      (h.encodeImage trivial trivial (fun _ => id) (fun _ => .inl) fun _ => .inr).endsWithin
  | dec =>
    exact State.endsWithin_withDims <| State.endsWithin_withRounds
      (h.decodeImage trivial (fun _ => .inl) fun _ => .inr).endsWithin

/-- What a command that answers `t` altered. -/
theorem altersOnly_of_exec {i : Instr} {t : State} (h : exec i s = .next t) : s.AltersOnly (s.column i) t := by
  obtain ⟨_, ho, -, halters⟩ := exec_endsWithin_column i s
  exact Host.Outcome.next.inj (ho.symm.trans h) ▸ halters

/-! ### Reading the columns -/

theorem State.keys_column {i : Instr} : (s.column i).keys ↔
    i = .kupd ∨ (∃ r, i = .kld r) ∨ i = .scr ∨ i = .uscr ∨ i = .enc ∨ i = .dec := by
  cases i <;> simp [State.column]

theorem State.finalKeys_column {i : Instr} : (s.column i).finalKeys ↔ i = .kfin ∨ i = .scr ∨ i = .enc := by
  cases i <;> simp [State.column]

theorem State.slot_column {i : Instr} {q : Nat} :
    (s.column i).slot q ↔ (i = .scr ∨ i = .enc) ∧ q < s.roundCount ∨ i = .kst q := by
  cases i <;> simp [State.column, eq_comm]

/-- The cells of a column, and the commands that have them. -/
theorem State.cell_column {i : Instr} {a : Nat} : (s.column i).cell a ↔
    ((i = .recomp ∨ (∃ dir, i = .rowp dir) ∨ (∃ dir, i = .colp dir) ∨ i = .scr ∨ i = .uscr ∨ i = .enc ∨ i = .dec) ∧
      s.InImgWindow a) ∨
    ((i = .decomp ∨ (∃ dir, i = .frota dir) ∨ i = .pshuf ∨ i = .enc ∨ i = .dec) ∧ s.InPlnWindow a) ∨
    ∃ p < 24, ((∃ steps, i = .frot p steps) ∨ ∃ dir, i = .frotk p dir) ∧ s.InPlaneWindow p a := by
  cases i <;> simp [State.column]

end

/-- Settles O60: a command alters only its column, and each clause asks for something outside it. -/
theorem commandsWriteOnlyTheirColumn : Obligations.CommandsWriteOnlyTheirColumn := by
  intro i s t h
  obtain ⟨⟨st, c, rfl⟩, hrmax, hkeys, hfinal, hslot, hcell⟩ := altersOnly_of_exec h
  refine ⟨rfl, hrmax, fun hi => hkeys (hi ∘ State.keys_column.1), fun hi => hfinal (hi ∘ State.finalKeys_column.1),
    fun q hq hne => hslot q fun hin => ?_, fun hi a ha => hcell a fun hin => ?_,
    fun p hi a ha => hcell a fun hin => ?_, fun hi a ha => hcell a fun hin => ?_⟩
  · obtain ⟨hi, hlt⟩ | rfl := State.slot_column.1 hin
    · exact absurd (hq hi) (by omega)
    · exact hne rfl
  · obtain ⟨himg, -⟩ | ⟨-, hpln⟩ | ⟨p, hp, -, hpln⟩ := State.cell_column.1 hin
    · exact hi himg
    · exact ha hpln
    · exact ha ⟨p, hp, hpln⟩
  · obtain ⟨steps, rfl⟩ | ⟨dir, rfl⟩ := hi
    · exact ha hin.2
    · exact ha hin.2
  · obtain ⟨-, himg⟩ | ⟨hpln, -⟩ | ⟨p, -, hpln, -⟩ := State.cell_column.1 hin
    · exact ha himg
    · exact hi (by tauto)
    · exact hi (hpln.elim (fun h => .inr (.inl ⟨p, h⟩)) fun h => .inr (.inr (.inl ⟨p, h⟩)))

end Sys2Proof.Machine
end

section
/-! PROOFS. The active window is all a command sees of IMG and PLN: two states that agree but for cells outside it stay
so through every data operation, and every command (`10_state.md` R27). -/

namespace Sys2Proof.Machine

/-! ### No cell outside the window is written -/

/-- The cells of every column lie in the active windows. -/
theorem State.inWindow_of_cell_column {s : State} {i : Instr} {a : Nat} (h : (s.column i).cell a) :
    s.InImgWindow a ∨ s.InPlnWindow a := by
  obtain ⟨-, himg⟩ | ⟨-, hpln⟩ | ⟨p, hp, -, hpln⟩ := State.cell_column.1 h
  · exact .inl himg
  · exact .inr hpln
  · exact .inr ⟨p, hp, hpln⟩

theorem exec_read_of_outside {i : Instr} {s t : State} (h : exec i s = .next t) {a : Nat} (himg : ¬ s.InImgWindow a)
    (hpln : ¬ s.InPlnWindow a) : t.mem.read a = s.mem.read a :=
  (altersOnly_of_exec h).cell a fun hcell => (State.inWindow_of_cell_column hcell).elim himg hpln

/-- A plane that is not replaced keeps its bits. -/
theorem State.setPlnWindow_pln_of_not_mem {s : State} (hh : s.height ≤ 4096) (hw : s.width ≤ 4096) {ps : List Nat}
    (f : Nat → Nat → Nat → Bool) {p y x : Nat} (hp : p ∉ ps) (hy : y < s.height) (hx : x < s.width) :
    (s.setPlnWindow ps f).pln p y x = s.pln p y x := by
  rw [State.pln, State.pln, s.setPlnWindow_read_of_not_mem]
  rintro q y' x' hq hy' hx' heq
  obtain ⟨rfl, -, -⟩ := plnAddr_inj (by omega) (by omega) (by omega) (by omega) heq
  exact hp hq

/-! ### Where the data operations read -/

/-- A floored modulus lies in its range (`00_scope.md` R9). -/
theorem wrap_lt (a : Int) {n : Nat} (hn : 0 < n) : wrap a n < n := by
  have hlt := Int.emod_lt_of_pos a (Int.natCast_pos.2 hn)
  have hnonneg := Int.emod_nonneg a (Int.natCast_pos.2 hn).ne'
  simp only [wrap]
  omega

/-- A bit position of a channel is one of the 24 planes (`42_bitplane_codec.md` R140). -/
theorem planeIndex_lt {c b : Nat} (hc : c < 3) (hb : b < 8) : planeIndex c b < 24 := by
  simp only [planeIndex]
  omega

/-- The reversed order is one of the 24 planes (`44_plane_reorderer.md` R170). -/
theorem shuf_lt {p : Nat} (hp : p < 24) : shuf p < 24 := by
  simp only [shuf]
  omega

/-- A sample joined from bits reads the eight of them (`42_bitplane_codec.md` R142). -/
theorem joinBits_congr {f g : Nat → Bool} (h : ∀ b < 8, f b = g b) : joinBits f = joinBits g :=
  List.foldl_ext _ _ _ fun _ b hb => by rw [h b (List.mem_range.1 hb)]

/-- The border cells lie in the window (`43_bitplane_rotator.md` R150). -/
theorem inWindow_of_mem_ring {h w : Nat} (hh : 2 ≤ h) (hw : 2 ≤ w) {cell : Nat × Nat} (hc : cell ∈ ring h w) :
    cell.1 < h ∧ cell.2 < w := by
  simp only [ring, List.mem_append, List.mem_map, List.mem_range] at hc
  obtain ((⟨x, hx, rfl⟩ | ⟨y, hy, rfl⟩) | ⟨x, hx, rfl⟩) | ⟨y, hy, rfl⟩ := hc
  · exact ⟨by omega, hx⟩
  · exact ⟨by dsimp only; omega, by dsimp only; omega⟩
  · exact ⟨by dsimp only; omega, by dsimp only; omega⟩
  · exact ⟨by dsimp only; omega, by dsimp only; omega⟩

/-- An entry of a list, or the default, has what both have. -/
theorem getD_of_forall_mem {α : Type} {P : α → Prop} {l : List α} {d : α} (hl : ∀ a ∈ l, P a) (hd : P d) (i : Nat) :
    P (l.getD i d) := by
  rw [List.getD_eq_getElem?_getD]
  cases hi : l[i]? with
  | none => exact hd
  | some a => exact hl a (List.mem_of_getElem? hi)

/-- Rotating a border reads cells of the window only (`43_bitplane_rotator.md` R151). -/
theorem frot_congr {g g' : Nat → Nat → Bool} {h w : Nat} (hg : ∀ y x, y < h → x < w → g y x = g' y x) (steps : Int)
    {y x : Nat} (hy : y < h) (hx : x < w) : frot g h w steps y x = frot g' h w steps y x := by
  simp only [frot]
  split
  · exact hg y x hy hx
  · rename_i hsize
    split
    · exact hg y x hy hx
    · obtain ⟨hsy, hsx⟩ := getD_of_forall_mem (P := fun cell : Nat × Nat => cell.1 < h ∧ cell.2 < w)
        (fun _ => inWindow_of_mem_ring (by omega) (by omega)) (d := (y, x)) ⟨hy, hx⟩ _
      exact hg _ _ hsy hsx

/-! ### States that agree but for cells outside the window -/

/-- The states differ in memory at most, and agree on the active windows. -/
structure State.SameInWindow (s s' : State) : Prop where
  rest : ∃ m, s' = { s with mem := m }
  img : SameImgWindow s s'
  pln : SamePlnWindow s s'

namespace State.SameInWindow

variable {s s' : State}

theorem height (h : s.SameInWindow s') : s'.height = s.height := by
  obtain ⟨_, rfl⟩ := h.rest
  rfl

theorem width (h : s.SameInWindow s') : s'.width = s.width := by
  obtain ⟨_, rfl⟩ := h.rest
  rfl

theorem roundCount (h : s.SameInWindow s') : s'.roundCount = s.roundCount := by
  obtain ⟨_, rfl⟩ := h.rest
  rfl

theorem planeSteps (h : s.SameInWindow s') (p : Nat) (dir : Dir) : s'.planeSteps p dir = s.planeSteps p dir := by
  obtain ⟨_, rfl⟩ := h.rest
  rfl

/-! The operations that leave memory alone. -/

theorem complete (h : s.SameInWindow s') : s.complete.SameInWindow s'.complete := by
  obtain ⟨⟨m, rfl⟩, himg, hpln⟩ := h
  exact ⟨⟨m, rfl⟩, himg, hpln⟩

theorem raise (h : s.SameInWindow s') (e : ErrCode) : (s.raise e).SameInWindow (s'.raise e) := by
  obtain ⟨⟨m, rfl⟩, himg, hpln⟩ := h
  exact ⟨⟨m, rfl⟩, himg, hpln⟩

theorem clearError (h : s.SameInWindow s') : s.clearError.SameInWindow s'.clearError := by
  obtain ⟨⟨m, rfl⟩, himg, hpln⟩ := h
  exact ⟨⟨m, rfl⟩, himg, hpln⟩

theorem updateKeys (h : s.SameInWindow s') : s.updateKeys.SameInWindow s'.updateKeys := by
  obtain ⟨⟨m, rfl⟩, himg, hpln⟩ := h
  exact ⟨⟨m, by simp only [State.updateKeys]⟩, by simpa [SameImgWindow] using himg,
    by simpa [SamePlnWindow] using hpln⟩

theorem storePair (h : s.SameInWindow s') (r : Nat) : (s.storePair r).SameInWindow (s'.storePair r) := by
  obtain ⟨⟨m, rfl⟩, himg, hpln⟩ := h
  exact ⟨⟨m, rfl⟩, himg, hpln⟩

theorem loadPair (h : s.SameInWindow s') (r : Nat) : (s.loadPair r).SameInWindow (s'.loadPair r) := by
  obtain ⟨⟨m, rfl⟩, himg, hpln⟩ := h
  exact ⟨⟨m, rfl⟩, himg, hpln⟩

theorem finalPair (h : s.SameInWindow s') : s.finalPair.SameInWindow s'.finalPair := by
  obtain ⟨⟨m, rfl⟩, himg, hpln⟩ := h
  exact ⟨⟨m, rfl⟩, himg, hpln⟩

end State.SameInWindow

/-- `u` and `u'` agree but for cells outside the window, and data operations of a command may have reached each of them
from a state with the image size and STATUS of `s`. -/
structure State.TwinReach (s u u' : State) : Prop where
  left : s.DataReach u
  right : s.DataReach u'
  same : u.SameInWindow u'

/-- Canonical memory and the image size a command needs to reach the window of a state. -/
theorem State.DataReach.window {s u : State} (h : s.DataReach u) (hd : s.DimsLegal) :
    u.mem.wf = true ∧ u.height ≤ 4096 ∧ u.width ≤ 4096 := by
  obtain ⟨-, hh, -, hw⟩ := h.dims hd
  obtain ⟨-, hhmax, -, hwmax⟩ := h.storage.params
  exact ⟨h.storage.memWf, by omega, by omega⟩

namespace State.TwinReach

variable {s u u' : State}

theorem refl {s s' : State} (h : s.StorageOk) (h' : s'.StorageOk) (hsame : s.SameInWindow s') : s.TwinReach s s' := by
  obtain ⟨m, rfl⟩ := hsame.rest
  exact ⟨.refl h, ⟨h', id, rfl, rfl⟩, hsame⟩

theorem updateKeys (h : s.TwinReach u u') : s.TwinReach u.updateKeys u'.updateKeys :=
  ⟨h.left.updateKeys, h.right.updateKeys, h.same.updateKeys⟩

theorem storePair (h : s.TwinReach u u') (r : Nat) : s.TwinReach (u.storePair r) (u'.storePair r) :=
  ⟨h.left.storePair r, h.right.storePair r, h.same.storePair r⟩

theorem loadPair (h : s.TwinReach u u') (r : Nat) : s.TwinReach (u.loadPair r) (u'.loadPair r) :=
  ⟨h.left.loadPair r, h.right.loadPair r, h.same.loadPair r⟩

theorem finalPair (h : s.TwinReach u u') : s.TwinReach u.finalPair u'.finalPair :=
  ⟨h.left.finalPair, h.right.finalPair, h.same.finalPair⟩

/-! Replacing a window by functions that agree on it. -/

theorem setImgWindow (h : s.TwinReach u u') (hd : s.DimsLegal) {f f' : Nat → Nat → Nat → Byte}
    (hf : ∀ c y x, c < 3 → y < u.height → x < u.width → f' c y x = f c y x) :
    s.TwinReach (u.setImgWindow f) (u'.setImgWindow f') := by
  obtain ⟨hwf, hh, hw⟩ := h.left.window hd
  obtain ⟨hwf', hh', hw'⟩ := h.right.window hd
  refine ⟨h.left.setImgWindow hd f, h.right.setImgWindow hd f', ?_, fun c y x hc hy hx => ?_, fun p y x hp hy hx => ?_⟩
  · obtain ⟨m, rfl⟩ := h.same.rest
    exact ⟨_, rfl⟩
  · rw [State.setImgWindow_img hwf' hh' hw' f' hc (h.same.height ▸ hy) (h.same.width ▸ hx),
      State.setImgWindow_img hwf hh hw f hc hy hx, hf c y x hc hy hx]
  · rw [State.setImgWindow_pln hh' hw', State.setImgWindow_pln hh hw, h.same.pln p y x hp hy hx]

theorem setPlnWindow (h : s.TwinReach u u') (hd : s.DimsLegal) {ps : List Nat} (hps : ∀ p ∈ ps, p < 24)
    {f f' : Nat → Nat → Nat → Bool} (hf : ∀ p y x, p ∈ ps → y < u.height → x < u.width → f' p y x = f p y x) :
    s.TwinReach (u.setPlnWindow ps f) (u'.setPlnWindow ps f') := by
  obtain ⟨hwf, hh, hw⟩ := h.left.window hd
  obtain ⟨hwf', hh', hw'⟩ := h.right.window hd
  refine ⟨h.left.setPlnWindow hd hps f, h.right.setPlnWindow hd hps f', ?_, fun c y x hc hy hx => ?_,
    fun p y x hp hy hx => ?_⟩
  · obtain ⟨m, rfl⟩ := h.same.rest
    exact ⟨_, rfl⟩
  · have hy : y < u.height := hy
    have hx : x < u.width := hx
    rw [State.setPlnWindow_img ps f' hc (by omega) (by omega), State.setPlnWindow_img ps f hc (by omega) (by omega),
      h.same.img c y x hc hy hx]
  · have hy' : y < u'.height := h.same.height ▸ hy
    have hx' : x < u'.width := h.same.width ▸ hx
    by_cases hmem : p ∈ ps
    · rw [State.setPlnWindow_pln hwf' hh' hw' f' hmem hy' hx', State.setPlnWindow_pln hwf hh hw f hmem hy hx,
        hf p y x hmem hy hx]
    · rw [State.setPlnWindow_pln_of_not_mem hh' hw' f' hmem hy' hx',
        State.setPlnWindow_pln_of_not_mem hh hw f hmem hy hx, h.same.pln p y x hp hy hx]

theorem rowPass (h : s.TwinReach u u') (hd : s.DimsLegal) (dir : Dir) :
    s.TwinReach (u.rowPass dir) (u'.rowPass dir) := by
  refine h.setImgWindow hd fun c y x hc hy hx => ?_
  have hread := h.same.img c y (wrap (x - dir.signed (rowShift u.k1.bits y u.width)) u.width) hc hy
    (wrap_lt _ (by omega))
  obtain ⟨m, rfl⟩ := h.same.rest
  exact hread

theorem colPass (h : s.TwinReach u u') (hd : s.DimsLegal) (dir : Dir) :
    s.TwinReach (u.colPass dir) (u'.colPass dir) := by
  refine h.setImgWindow hd fun c y x hc hy hx => ?_
  have hread := h.same.img c (wrap (y - dir.signed (colShift u.k2.bits x u.height)) u.height) x hc
    (wrap_lt _ (by omega)) hx
  obtain ⟨m, rfl⟩ := h.same.rest
  exact hread

theorem recompose (h : s.TwinReach u u') (hd : s.DimsLegal) : s.TwinReach u.recompose u'.recompose :=
  h.setImgWindow hd fun _ y x hc hy hx => joinBits_congr fun _ hb => h.same.pln _ y x (planeIndex_lt hc hb) hy hx

theorem decompose (h : s.TwinReach u u') (hd : s.DimsLegal) : s.TwinReach u.decompose u'.decompose :=
  h.setPlnWindow hd (fun _ => mem_planes.1) fun p y x hp hy hx => by
    have hp := mem_planes.1 hp
    rw [h.same.img (p / 8) y x (by omega) hy hx]

theorem shuffle (h : s.TwinReach u u') (hd : s.DimsLegal) : s.TwinReach u.shuffle u'.shuffle :=
  h.setPlnWindow hd (fun _ => mem_planes.1) fun _ y x hp hy hx => h.same.pln _ y x (shuf_lt (mem_planes.1 hp)) hy hx

/-- A border rotated by the same steps in both states. -/
theorem frot_pln (h : s.TwinReach u u') {p y x : Nat} (hp : p < 24) (hy : y < u.height) (hx : x < u.width)
    (steps : Int) :
    frot (u'.pln p) u'.height u'.width steps y x = frot (u.pln p) u.height u.width steps y x := by
  rw [h.same.height, h.same.width]
  exact frot_congr (h.same.pln p · · hp) steps hy hx

theorem rotatePlane (h : s.TwinReach u u') (hd : s.DimsLegal) {p : Nat} (hp : PlaneLegal p) (steps : Int) :
    s.TwinReach (u.rotatePlane p steps) (u'.rotatePlane p steps) := by
  have hps : ∀ q ∈ [p], q < 24 := fun _ hq => List.mem_singleton.1 hq ▸ hp
  exact h.setPlnWindow hd hps fun q _ _ hq hy hx => h.frot_pln (hps q hq) hy hx steps

theorem rotateAll (h : s.TwinReach u u') (hd : s.DimsLegal) (dir : Dir) :
    s.TwinReach (u.rotateAll dir) (u'.rotateAll dir) :=
  h.setPlnWindow hd (fun _ => mem_planes.1) fun p _ _ hp hy hx => by
    rw [h.same.planeSteps, h.frot_pln (mem_planes.1 hp) hy hx]

/-! The sequences built of them. -/

/-- The same rounds on both states. -/
theorem foldl {round : State → Nat → State}
    (hround : ∀ v v' r, s.TwinReach v v' → s.TwinReach (round v r) (round v' r)) (rs : List Nat)
    (h : s.TwinReach u u') : s.TwinReach (rs.foldl round u) (rs.foldl round u') := by
  induction rs generalizing u u' with
  | nil => exact h
  | cons r rs ih => exact ih (hround u u' r h)

theorem scramble (h : s.TwinReach u u') (hd : s.DimsLegal) : s.TwinReach u.scramble u'.scramble := by
  rw [State.scramble, State.scramble, h.same.roundCount]
  exact (foldl (fun _ _ r hv => (((hv.storePair r).rowPass hd .fwd).colPass hd .fwd).updateKeys) _ h).finalPair

theorem unscramble (h : s.TwinReach u u') (hd : s.DimsLegal) : s.TwinReach u.unscramble u'.unscramble := by
  rw [State.unscramble, State.unscramble, h.same.roundCount]
  exact foldl (fun _ _ r hv => ((hv.loadPair r).colPass hd .inv).rowPass hd .inv) _ h

theorem encodeImage (h : s.TwinReach u u') (hd : s.DimsLegal) : s.TwinReach u.encodeImage u'.encodeImage :=
  ((((h.scramble hd).decompose hd).rotateAll hd .fwd).shuffle hd).recompose hd

theorem decodeImage (h : s.TwinReach u u') (hd : s.DimsLegal) : s.TwinReach u.decodeImage u'.decodeImage :=
  ((((h.decompose hd).shuffle hd).rotateAll hd .inv).recompose hd).unscramble hd

end State.TwinReach

/-! ### Every command -/

/-- Both outcomes are next states, and these agree but for cells outside the window. -/
def TwinOutcomes (o o' : Outcome) : Prop := ∃ t t', o = .next t ∧ o' = .next t' ∧ t.SameInWindow t'

theorem State.SameInWindow.outcomes {t t' : State} (h : t.SameInWindow t') : TwinOutcomes (.next t) (.next t') :=
  ⟨t, t', rfl, rfl, h⟩

theorem State.TwinReach.outcomes {s u u' : State} (h : s.TwinReach u u') :
    TwinOutcomes (.next u.complete) (.next u'.complete) := h.same.complete.outcomes

/-! The precondition tests answer the same on both states: none of them reads a cell. -/

section
variable {s s' : State} {go go' : Outcome}

theorem State.SameInWindow.guard {P P' : Prop} [Decidable P] [Decidable P'] (h : s.SameInWindow s') (hiff : P' ↔ P)
    (hgo : P → TwinOutcomes go go') (e : ErrCode) :
    TwinOutcomes (if P then go else .next (s.raise e)) (if P' then go' else .next (s'.raise e)) := by
  by_cases hp : P
  · rw [if_pos hp, if_pos (hiff.2 hp)]
    exact hgo hp
  · rw [if_neg hp, if_neg (mt hiff.1 hp)]
    exact (h.raise e).outcomes

theorem State.SameInWindow.withDims (h : s.SameInWindow s') (hgo : s.DimsLegal → TwinOutcomes go go') :
    TwinOutcomes (s.withDims go) (s'.withDims go') := by
  refine h.guard ?_ hgo .dim
  obtain ⟨_, rfl⟩ := h.rest
  rfl

theorem State.SameInWindow.withRounds (h : s.SameInWindow s') (hgo : TwinOutcomes go go') :
    TwinOutcomes (s.withRounds go) (s'.withRounds go') := by
  refine h.guard ?_ (fun _ => hgo) .rounds
  obtain ⟨_, rfl⟩ := h.rest
  rfl

theorem State.SameInWindow.withSlot (h : s.SameInWindow s') (r : Nat) (hgo : TwinOutcomes go go') :
    TwinOutcomes (s.withSlot r go) (s'.withSlot r go') := by
  refine h.guard ?_ (fun _ => hgo) .rounds
  obtain ⟨_, rfl⟩ := h.rest
  rfl

theorem State.SameInWindow.withPlane (h : s.SameInWindow s') {p : Nat} (hgo : PlaneLegal p → TwinOutcomes go go') :
    TwinOutcomes (s.withPlane p go) (s'.withPlane p go') :=
  h.guard Iff.rfl hgo .plane

end

/-- A command on two states that agree but for cells outside the window: it passes the same checks, and each of its data
operations keeps the agreement. -/
theorem exec_twinOutcomes {s s' : State} (hs : s.StorageOk) (hs' : s'.StorageOk) (hsame : s.SameInWindow s')
    (i : Instr) : TwinOutcomes (exec i s) (exec i s') := by
  have h : s.TwinReach s s' := .refl hs hs' hsame
  cases i with
  | nop => exact h.outcomes
  | errclr => exact hsame.clearError.complete.outcomes
  | decomp => exact hsame.withDims fun hd => (h.decompose hd).outcomes
  | recomp => exact hsame.withDims fun hd => (h.recompose hd).outcomes
  | rowp dir => exact hsame.withDims fun hd => (h.rowPass hd dir).outcomes
  | colp dir => exact hsame.withDims fun hd => (h.colPass hd dir).outcomes
  | kupd => exact h.updateKeys.outcomes
  | kst r => exact hsame.withSlot r (h.storePair r).outcomes
  | kld r => exact hsame.withSlot r (h.loadPair r).outcomes
  | kfin => exact h.finalPair.outcomes
  | scr => exact hsame.withDims fun hd => hsame.withRounds (h.scramble hd).outcomes
  | uscr => exact hsame.withDims fun hd => hsame.withRounds (h.unscramble hd).outcomes
  | frot p steps => exact hsame.withDims fun hd => hsame.withPlane fun hp => (h.rotatePlane hd hp steps).outcomes
  | frotk p dir =>
    refine hsame.withDims fun hd => hsame.withPlane fun hp => ?_
    rw [hsame.planeSteps]
    exact (h.rotatePlane hd hp _).outcomes
  | frota dir => exact hsame.withDims fun hd => (h.rotateAll hd dir).outcomes
  | pshuf => exact hsame.withDims fun hd => (h.shuffle hd).outcomes
  | enc => exact hsame.withDims fun hd => hsame.withRounds (h.encodeImage hd).outcomes
  | dec => exact hsame.withDims fun hd => hsame.withRounds (h.decodeImage hd).outcomes

/-- Settles O59: a command's column lies in the windows, and agreement on the windows is kept by every command. -/
theorem commandsStayInTheActiveWindow : Obligations.CommandsStayInTheActiveWindow := by
  refine ⟨fun i s t a h himg hpln => exec_read_of_outside h himg hpln, fun i s s' hs hs' hrest himg hpln => ?_⟩
  obtain ⟨t, t', ht, ht', ⟨m, rfl⟩, himg, hpln⟩ := exec_twinOutcomes hs.storage hs'.storage ⟨⟨_, hrest⟩, himg, hpln⟩ i
  exact ⟨t, _, ht, ht', rfl, himg, hpln⟩

end Sys2Proof.Machine
end

section
/-! PROOFS. How a command word reaches the Engine, what a CMD write does, what the CSRs read, and that an error stays:
first the steps and transactions these turn on, each as an equation. -/

namespace Sys2Proof.Machine

/-! ### The step -/

theorem step_of_no_turn {s : State} (h : s.agenda = []) : step s = s.settle := by
  simp only [step, State.advance, h]

/-- With BUSY 1 the Engine moves first (entry 7). -/
theorem State.settle_of_busy {s : State} (h : s.status.busy = true) : s.settle = s.engineStep s.pend := by
  simp only [State.settle, State.fetch, h, if_true]

/-- With BUSY 0 the outstanding transaction completes. -/
theorem State.settle_of_port {s : State} {tr : Transaction} (hbusy : s.status.busy = false) (hport : s.port = some tr) :
    s.settle = .next (s.transact tr) := by
  simp [State.settle, State.fetch, hbusy, hport]

theorem step_of_engine_turn {s : State} {rest : List Turn} (h : s.agenda = .engine :: rest)
    (hbusy : s.status.busy = true) : step s = State.engineStep { s with agenda := rest } s.pend := by
  simp [step, State.advance, h, State.mustWait, State.takeTurn, State.fetch, hbusy]

theorem step_of_request_turn {s : State} {tr : Transaction} {rest : List Turn} (h : s.agenda = .request tr :: rest)
    (hport : s.port = none) : step s = .next { s with agenda := rest, port := some tr } := by
  simp [step, State.advance, h, State.mustWait, State.takeTurn, hport]

theorem State.engineStep_of_decode {s : State} {w : Word} {i : Instr} (h : decode w = .ok i) :
    s.engineStep w = exec i s := by
  simp only [State.engineStep, h]

/-- An Engine step always ends, with BUSY 0, and leaves the port and the turns to come alone (`10_state.md` R33). -/
theorem State.engineStep_ends (s : State) (w : Word) :
    ∃ t, s.engineStep w = .next t ∧ t.status.busy = false ∧ t.port = s.port ∧ t.agenda = s.agenda := by
  obtain ⟨i, -, ho⟩ | ⟨_, -, ho⟩ := s.engineStep_cases w
  · obtain ⟨t, ht, hbusy, halters⟩ := exec_endsWithin_column i s
    exact ⟨t, ho.trans ht, hbusy, halters.port, halters.agenda⟩
  · exact ⟨_, ho, rfl, rfl, rfl⟩

/-- Settles O5: both ways the Engine gets its turn lead to its step on PEND. -/
theorem stepRunsDecodedCommand : Obligations.StepRunsDecodedCommand := by
  intro s i hbusy hdec
  refine ⟨fun hturn => ?_, fun rest hturn => ?_⟩
  · rw [step_of_no_turn hturn, State.settle_of_busy hbusy, State.engineStep_of_decode hdec]
  · rw [step_of_engine_turn hturn hbusy, State.engineStep_of_decode hdec]

/-! ### The control and status registers -/

/-- The CSR addresses are 0 to 6 (`20_memory.md` R55). -/
theorem State.element_csr (s : State) {n : Nat} (h : n ≤ 6) : s.element (BitVec.ofNat 32 n) = some (.csr n) := by
  have hn : (BitVec.ofNat 32 n).toNat = n := by
    rw [BitVec.toNat_ofNat]
    omega
  have hspace : n / 0x20000000 = 0 := by omega
  simp only [State.element, hn, decodeAddr, hspace, h, if_true]

theorem State.transact_write_csr (s : State) {n : Nat} (h : n ≤ 6) (w : Word) :
    s.transact (.write (BitVec.ofNat 32 n) w) =
      { s.writeCsr n w with port := none, response := some (.write false) } := by
  simp only [State.transact, s.element_csr h, State.writeElement]

theorem State.transact_read_csr (s : State) {n : Nat} (h : n ≤ 6) :
    s.transact (.read (BitVec.ofNat 32 n)) =
      { s with port := none, response := some (.read (s.readCsr n) false) } := by
  simp only [State.transact, s.element_csr h, State.readElement]

/-- With BUSY 0 an outstanding CMD write is performed. -/
theorem step_of_cmdWrite {s : State} {w : Word} (hturn : s.agenda = []) (hbusy : s.status.busy = false)
    (hport : s.port = some (.write 0 w)) :
    step s = .next { s.writeCmd w with port := none, response := some (.write false) } := by
  rw [step_of_no_turn hturn, State.settle_of_port hbusy hport]
  exact congrArg _ (s.transact_write_csr (n := 0) (by omega) w)

/-- `10_state.md` R22 case a. -/
theorem step_of_discarded_cmdWrite {s : State} {w : Word} (hturn : s.agenda = []) (hbusy : s.status.busy = false)
    (hport : s.port = some (.write 0 w)) (herr : s.status.err = true) (hw : w ≠ errclrWord) :
    step s = .next { s with port := none, response := some (.write false) } := by
  have hdrop : s.writeCmd w = s := if_pos ⟨herr, hw⟩
  rw [step_of_cmdWrite hturn hbusy hport, hdrop]

/-- `10_state.md` R22 case b. -/
theorem step_of_accepted_cmdWrite {s : State} {w : Word} (hturn : s.agenda = []) (hbusy : s.status.busy = false)
    (hport : s.port = some (.write 0 w)) (hok : s.status.err = false ∨ w = errclrWord) :
    step s = .next { s with port := none, response := some (.write false), pend := w,
                            status := { s.status with busy := true, done := false } } := by
  have haccept : s.writeCmd w = s.accept w := by
    refine if_neg fun ⟨herr, hw⟩ => hok.elim (fun herr' => ?_) hw
    exact Bool.noConfusion (herr.symm.trans herr')
  rw [step_of_cmdWrite hturn hbusy hport, haccept]
  rfl

/-- Settles O6: the request, the acceptance, the Engine step. -/
theorem commandWordReachesTheEngine : Obligations.CommandWordReachesTheEngine := by
  intro s w i hturn hport hbusy herr hdec
  refine ⟨_, _, step_of_request_turn hturn hport, step_of_accepted_cmdWrite rfl hbusy rfl (.inl herr), ?_, rfl⟩
  rw [step_of_no_turn rfl, State.settle_of_busy rfl, State.engineStep_of_decode hdec]

/-- Settles O13: with BUSY 0 the write is discarded or accepted; with BUSY 1 the Engine step comes first. -/
theorem cmdWriteAcceptsDiscardsOrWaits : Obligations.CmdWriteAcceptsDiscardsOrWaits := by
  intro s hturn
  refine ⟨fun w hport hbusy => step_of_discarded_cmdWrite hturn hbusy hport,
    fun w hport hbusy => step_of_accepted_cmdWrite hturn hbusy hport, fun w hport hbusy => ?_, fun hport hbusy => ?_⟩
  · obtain ⟨t, ht, hidle, hkeep, hnone⟩ := s.engineStep_ends s.pend
    exact ⟨t, by rw [step_of_no_turn hturn, State.settle_of_busy hbusy, ht], hidle, hkeep, hnone.trans hturn⟩
  · rw [step_of_no_turn hturn, State.settle_of_port hbusy hport]
    exact congrArg _ (s.transact_read_csr (n := 0) (by omega))

/-- The value of two words side by side. -/
theorem toNat_append_eq_add {m n : Nat} (x : BitVec m) (y : BitVec n) :
    (x ++ y).toNat = x.toNat * 2 ^ n + y.toNat := by
  rw [BitVec.toNat_append, ← Nat.shiftLeft_add_eq_or_of_lt y.isLt, Nat.shiftLeft_eq]

/-- The field places of STATUS (`10_state.md` R21). -/
theorem Status.toNat_word (st : Status) :
    st.word.toNat = st.busy.toNat + 2 * st.done.toNat + 4 * st.err.toNat + 256 * st.errcode.toNat := by
  simp only [Status.word, toNat_append_eq_add, BitVec.toNat_ofBool, BitVec.toNat_ofNat]
  omega

/-- A write of a read-only CSR has no effect (`10_state.md` R29). -/
theorem State.writeCsr_of_readOnly (s : State) {n : Nat} (h : n = 1 ∨ n = 5 ∨ n = 6) (w : Word) :
    s.writeCsr n w = s := by
  obtain rfl | rfl | rfl := h <;> rfl

/-- Settles O18: each field fits its place, by the bounds the invariant gives. -/
theorem csrsReadTheirFields : Obligations.CsrsReadTheirFields := by
  intro s h
  obtain ⟨-, hslots⟩ := h.slots
  obtain ⟨-, hhmax, -, hwmax⟩ := h.params
  refine ⟨s.status.toNat_word, BitVec.toNat_setWidth_of_le (by omega), BitVec.toNat_setWidth_of_le (by omega),
    BitVec.toNat_setWidth_of_le (by omega), ?_, ?_, fun n w hn => ?_⟩
  · simp only [State.readCsr, State.param0, Config.klen, BitVec.toNat_ofNat]
    omega
  · simp only [State.readCsr, State.param1, BitVec.toNat_ofNat]
    omega
  · rw [s.transact_write_csr (by omega) w, s.writeCsr_of_readOnly hn]

/-! ### Reset -/

/-- Settles O19: the fields are those of `State.powerUp`, and the image size 0 by 0 is illegal. -/
theorem resetValues : Obligations.ResetValues := by
  intro p c
  have hword : Status.word { busy := false, done := false, err := false, errcode := 0 } = 0 := by decide
  have hdims : ¬ (State.powerUp p c).DimsLegal := fun ⟨hheight, _⟩ => Nat.not_succ_le_zero 0 hheight
  exact ⟨rfl, hword, rfl, rfl, rfl, hdims, rfl, rfl, rfl, rfl, rfl, rfl⟩

/-! ### Errors -/

/-- STATUS after a write of an element: what it was, or what an acceptance leaves (`10_state.md` R22, R35). -/
theorem State.writeElement_status (s : State) (e : Element) (w : Word) :
    (s.writeElement e w).status = s.status ∨ (s.writeElement e w).status = s.status.accept := by
  cases e with
  | csr n =>
    simp only [State.writeElement, State.writeCsr]
    split
    · obtain ho | ⟨-, ho⟩ := s.writeCmd_cases w
      · exact .inl (by rw [ho])
      · exact .inr (by rw [ho]; rfl)
    all_goals exact .inl rfl
  | keyBit slot i =>
    simp only [State.writeElement, State.setKey]
    split <;> exact .inl rfl
  | img c y x => exact .inl rfl
  | pln p y x => exact .inl rfl

/-- No transaction changes ERR or ERRCODE. -/
theorem State.transact_error (s : State) (tr : Transaction) :
    (s.transact tr).status.err = s.status.err ∧ (s.transact tr).status.errcode = s.status.errcode := by
  cases tr with
  | read addr =>
    simp only [State.transact]
    split <;> exact ⟨rfl, rfl⟩
  | write addr w =>
    simp only [State.transact]
    split
    case h_1 e _ => obtain ho | ho := s.writeElement_status e w <;> simp [ho]
    case h_2 => exact ⟨rfl, rfl⟩

/-- With ERR 1 the pending word is ERRCLR's, so the Engine step clears the error (`60_exceptions.md` R201). -/
theorem State.Inv.engineStep_of_err {s t : State} (h : s.Inv) (herr : s.status.err = true) {w : Word}
    (hfetch : s.fetch = some w) (hstep : s.engineStep w = .next t) : w = errclrWord ∧ t = s.clearError.complete := by
  obtain ⟨hbusy, rfl⟩ := State.fetch_eq_some.1 hfetch
  have hpend := h.onlyErrclrPends hbusy herr
  rw [hpend, State.engineStep_of_decode decode_errclrWord] at hstep
  exact ⟨hpend, (Host.Outcome.next.inj hstep).symm⟩

/-- Settles O12: of what a step can do, by `step_cases`, only the Engine step on ERRCLR and a reset touch ERR. -/
theorem errorStaysUntilErrclrOrReset : Obligations.ErrorStaysUntilErrclrOrReset := by
  intro s t h hstep herr
  obtain ⟨rest, u, hu, hcases⟩ := step_cases hstep
  have hinv : u.Inv := hu ▸ h.congr rfl rfl rfl rfl rfl
  have hstatus : u.status = s.status := hu ▸ rfl
  obtain ⟨w, hfetch, hengine⟩ | ⟨tr, -, -, rfl⟩ | ⟨tr, -, rfl⟩ | ⟨hreset, -⟩ | rfl := hcases
  · obtain ⟨rfl, rfl⟩ := hinv.engineStep_of_err (hstatus ▸ herr) hfetch hengine
    exact .inr (.inl ⟨by rw [← hfetch, hu]; rfl, rfl, rfl⟩)
  · obtain ⟨herr', hcode⟩ := u.transact_error tr
    exact .inl ⟨by rw [herr', hstatus, herr], by rw [hcode, hstatus]⟩
  · exact .inl ⟨by rw [hstatus, herr], by rw [hstatus]⟩
  · exact .inr (.inr ⟨rest, hreset⟩)
  · exact .inl ⟨by rw [hstatus, herr], by rw [hstatus]⟩

end Sys2Proof.Machine
end

section
/-! PROOFS. The host port (`20_memory.md` R50 to R60): when a transaction completes and when it is held, the address map
in both directions, and what a write through the port leaves every element reading as. -/

namespace Sys2Proof

/-! ### One bit of a key register -/

theorem Key.bit_setBit_self (k : Key) {i : Nat} (h : i < 128) (b : Bool) : (k.setBit i b).bit i = b := by
  simp [Key.bit, Key.bits, Key.setBit, h]

theorem Key.bit_setBit_of_ne (k : Key) {i j : Nat} (h : j ≠ i) (b : Bool) : (k.setBit i b).bit j = k.bit j := by
  simp [Key.bit, Key.bits, Key.setBit, h.symm]

end Sys2Proof

namespace Sys2Proof.Machine

/-! ### Completing and holding the outstanding transaction -/

theorem step_of_grant_turn {s : State} {rest : List Turn} (h : s.agenda = .grant :: rest) :
    step s = .next (State.grant { s with agenda := rest }) := by
  simp [step, State.advance, h, State.mustWait, State.takeTurn]

theorem State.grant_of_not_holds {s : State} {tr : Transaction} (hport : s.port = some tr) (h : s.holds tr = false) :
    s.grant = s.transact tr := by
  simp [State.grant, hport, h]

theorem State.grant_of_holds {s : State} {tr : Transaction} (hport : s.port = some tr) (h : s.holds tr = true) :
    s.grant = s := by
  simp [State.grant, hport, h]

/-- The Host's turn completes a transaction that is not held. -/
theorem step_of_grant_not_held {s : State} {tr : Transaction} {rest : List Turn} (hturn : s.agenda = .grant :: rest)
    (hport : s.port = some tr) (h : s.holds tr = false) :
    step s = .next (State.transact { s with agenda := rest } tr) :=
  (step_of_grant_turn hturn).trans (congrArg _ (State.grant_of_not_holds (s := { s with agenda := rest }) hport h))

/-- The Host's turn leaves a transaction that is held on the port. -/
theorem step_of_grant_held {s : State} {tr : Transaction} {rest : List Turn} (hturn : s.agenda = .grant :: rest)
    (hport : s.port = some tr) (h : s.holds tr = true) : step s = .next { s with agenda := rest } :=
  (step_of_grant_turn hturn).trans (congrArg _ (State.grant_of_holds (s := { s with agenda := rest }) hport h))

/-- With BUSY 0 nothing is held. -/
theorem State.holds_of_idle {s : State} (h : s.status.busy = false) (tr : Transaction) : s.holds tr = false := by
  simp [State.holds, h]

/-- The CSR space is the addresses below `0x20000000` (`20_memory.md` R51). -/
theorem Transaction.isCsrRead_read_iff {a : Word} : (Transaction.read a).isCsrRead = true ↔ a.toNat < 0x20000000 := by
  simp only [Transaction.isCsrRead, beq_iff_eq]
  omega

/-- A read of the CSR space is never held (`20_memory.md` R59). -/
theorem State.holds_csrRead (s : State) {a : Word} (h : a.toNat < 0x20000000) : s.holds (.read a) = false := by
  simp [State.holds, Transaction.isCsrRead_read_iff.2 h]

/-- With BUSY 1 everything but a read of the CSR space is held (`20_memory.md` R59). -/
theorem State.holds_of_busy {s : State} {tr : Transaction} (hbusy : s.status.busy = true)
    (h : ∀ a, tr = .read a → 0x20000000 ≤ a.toNat) : s.holds tr = true := by
  have hother : tr.isCsrRead = false := by
    cases tr with
    | read a => exact Bool.eq_false_iff.2 fun hcsr => absurd (Transaction.isCsrRead_read_iff.1 hcsr) (h a rfl).not_gt
    | write a w => rfl
  simp [State.holds, hbusy, hother]

theorem State.transact_port (s : State) (tr : Transaction) : (s.transact tr).port = none := by
  cases tr with
  | read a => simp only [State.transact]; split <;> rfl
  | write a w => simp only [State.transact]; split <;> rfl

/-! ### The completed transaction, by whether its address is mapped -/

theorem State.transact_read {s : State} {a : Word} {e : Element} (h : s.element a = some e) :
    s.transact (.read a) = { s with port := none, response := some (.read (s.readElement e) false) } := by
  simp only [State.transact, h]

theorem State.transact_write {s : State} {a : Word} {e : Element} (h : s.element a = some e) (w : Word) :
    s.transact (.write a w) = { s.writeElement e w with port := none, response := some (.write false) } := by
  simp only [State.transact, h]

/-- `20_memory.md` R58 for a read. -/
theorem State.transact_read_unmapped {s : State} {a : Word} (h : s.element a = none) :
    s.transact (.read a) = { s with port := none, response := some (.read (Config.errorData s.errReads) true),
                                    errReads := s.errReads + 1 } := by
  simp only [State.transact, h]

/-- `20_memory.md` R58 for a write. -/
theorem State.transact_write_unmapped {s : State} {a : Word} (h : s.element a = none) (w : Word) :
    s.transact (.write a w) = { s with port := none, response := some (.write true) } := by
  simp only [State.transact, h]

/-- Settles O14: the address decoder names no element, so the transaction gets the error response. -/
theorem unmappedAccessGetsErrorResponse : Obligations.UnmappedAccessGetsErrorResponse := by
  intro s a hnone
  refine ⟨fun hturn hbusy hport => ⟨Config.errorData s.errReads, ?_⟩, fun w hturn hbusy hport => ?_,
    fun rest hturn _ hcsr hport => ⟨Config.errorData s.errReads, ?_⟩⟩
  · rw [step_of_no_turn hturn, State.settle_of_port hbusy hport, State.transact_read_unmapped hnone]
  · rw [step_of_no_turn hturn, State.settle_of_port hbusy hport, State.transact_write_unmapped hnone]
  · rw [step_of_grant_not_held hturn hport (s.holds_csrRead hcsr), State.transact_agenda,
      State.transact_read_unmapped hnone]

/-- Settles O15: a read of the CSR space is not held, everything else is, and the Engine step, which comes first, leaves
it on the port with BUSY 0. -/
theorem transactionsAreHeldWhileBusy : Obligations.TransactionsAreHeldWhileBusy := by
  intro s tr hbusy hport
  refine ⟨?_, fun rest hturn hother => ?_, fun hturn hother => ?_⟩
  · rintro rest a hturn rfl hcsr
    have hstep := step_of_grant_not_held hturn hport (s.holds_csrRead hcsr)
    refine ⟨hstep, ?_⟩
    rintro n hn rfl
    have hmapped : s.element a = some (.csr a.toNat) := by simpa using s.element_csr hn
    rw [hstep, State.transact_agenda, State.transact_read hmapped]
    rfl
  · exact step_of_grant_held hturn hport (State.holds_of_busy hbusy hother)
  · obtain ⟨t, ht, hidle, hkeep, hagenda⟩ := s.engineStep_ends s.pend
    refine ⟨t, t.transact tr, ?_, hidle, hkeep.trans hport, ?_, rfl, t.transact_port tr⟩
    · rw [step_of_no_turn hturn, State.settle_of_busy hbusy, ht]
    · rw [step_of_no_turn (hagenda.trans hturn), State.settle_of_port hidle (hkeep.trans hport)]

/-! ### The address map -/

/-- The element exists in a block of this size (`20_memory.md` R55 to R57). -/
def Element.Exists (params : Config.Params) (rmax : Nat) : Element → Prop
  | .csr n => n ≤ 6
  | .keyBit slot i => slot < 4 + 2 * rmax ∧ i < 128
  | .img c y x => c ≤ 2 ∧ y < params.hmax ∧ x < params.wmax
  | .pln p y x => p ≤ 23 ∧ y < params.hmax ∧ x < params.wmax

/-- The address of an element (`20_memory.md` R55 to R57). -/
def Element.addr : Element → Nat
  | .csr n => n
  | .keyBit slot i => 0x20000000 + slot * 1024 + i
  | .img c y x => imgAddr c y x
  | .pln p y x => plnAddr p y x

/-- The address decoder names only elements that exist, at their addresses. -/
theorem decodeAddr_sound {params : Config.Params} {rmax a : Nat} {e : Element} (h : decodeAddr params rmax a = some e) :
    e.Exists params rmax ∧ a = e.addr := by
  simp only [decodeAddr] at h
  split at h
  case h_1 hspace =>
    split_ifs at h with hin
    cases h
    exact ⟨hin, rfl⟩
  case h_2 hspace =>
    split_ifs at h with hin
    cases h
    obtain ⟨hzero, hbounds⟩ := hin
    refine ⟨hbounds, ?_⟩
    simp only [Element.addr]
    omega
  case h_3 hspace =>
    split_ifs at h with hin
    cases h
    obtain ⟨hc, hbounds⟩ := hin
    refine ⟨⟨Nat.le_of_lt_succ hc, hbounds⟩, ?_⟩
    simp only [Element.addr, imgAddr]
    omega
  case h_4 hspace =>
    split_ifs at h with hin
    cases h
    obtain ⟨hp, hbounds⟩ := hin
    refine ⟨⟨Nat.le_of_lt_succ hp, hbounds⟩, ?_⟩
    simp only [Element.addr, plnAddr]
    omega
  case h_5 => cases h

/-- The address decoder finds every element that exists at its address. -/
theorem decodeAddr_addr {params : Config.Params} (hp : params.Legal) {rmax : Nat} (hr : rmax ≤ 62) {e : Element}
    (h : e.Exists params rmax) : decodeAddr params rmax e.addr = some e := by
  obtain ⟨-, hhmax, -, hwmax⟩ := hp
  cases e with
  | csr n =>
    have hn : n ≤ 6 := h
    have hspace : n / 0x20000000 = 0 := by omega
    simp only [decodeAddr, Element.addr, hspace, hn, if_true]
  | keyBit slot i =>
    obtain ⟨hslot, hi⟩ := h
    have hspace : (0x20000000 + slot * 1024 + i) / 0x20000000 = 1 := by omega
    have hzero : (0x20000000 + slot * 1024 + i) / 0x20000 % 0x1000 = 0 := by omega
    have hslot' : (0x20000000 + slot * 1024 + i) / 0x400 % 0x80 = slot := by omega
    have hi' : (0x20000000 + slot * 1024 + i) % 0x400 = i := by omega
    simp [decodeAddr, Element.addr, hspace, hzero, hslot', hi', hslot, hi]
  | img c y x =>
    obtain ⟨hc, hy, hx⟩ := h
    exact decodeAddr_imgAddr (by omega) hy hx (by omega) (by omega)
  | pln p y x =>
    obtain ⟨hpl, hy, hx⟩ := h
    exact decodeAddr_plnAddr (by omega) hy hx (by omega) (by omega)

/-- The address map of `20_memory.md` R55 to R57 in both directions. -/
theorem State.Inv.element_eq_some_iff {s : State} (h : s.Inv) {a : Word} {e : Element} :
    s.element a = some e ↔ e.Exists s.params s.rmax ∧ a.toNat = e.addr := by
  refine ⟨decodeAddr_sound, fun ⟨hexists, haddr⟩ => ?_⟩
  rw [State.element, haddr, decodeAddr_addr h.params h.slots.2 hexists]

/-- An element's address is a 32-bit word, so the element is found there. -/
theorem State.Inv.element_ofNat_addr {s : State} (h : s.Inv) {e : Element} (hexists : e.Exists s.params s.rmax) :
    s.element (BitVec.ofNat 32 e.addr) = some e := by
  refine h.element_eq_some_iff.2 ⟨hexists, ?_⟩
  obtain ⟨-, hhmax, -, hwmax⟩ := h.params
  obtain ⟨-, hslots⟩ := h.slots
  have hfits : e.addr < 2 ^ 32 := by
    cases e <;> simp only [Element.Exists] at hexists <;> simp only [Element.addr, imgAddr, plnAddr] <;> omega
  rw [BitVec.toNat_ofNat, Nat.mod_eq_of_lt hfits]

/-- The first key of a pair is in an even slot (`20_memory.md` R56). -/
theorem State.key_evenSlot (s : State) (r : Nat) : s.key (4 + 2 * r) = (s.pair r).k1 := by
  simp [Nat.add_comm 4, State.key]

/-- The second key of a pair is in an odd slot (`20_memory.md` R56). -/
theorem State.key_oddSlot (s : State) (r : Nat) : s.key (5 + 2 * r) = (s.pair r).k2 := by
  have hparity : (2 * r + 1) % 2 = 1 := by omega
  have hhalf : (2 * r + 1) / 2 = r := by omega
  have hslot : 5 + 2 * r = (2 * r + 1) + 4 := by omega
  simp [hslot, State.key, hparity, hhalf]

/-- Settles O16: the address map is `State.Inv.element_eq_some_iff`, kind of element by kind of element. -/
theorem addressMapIsTheSpecs : Obligations.AddressMapIsTheSpecs := by
  intro s h
  refine ⟨fun a hcsr => ?_, fun slot i hslot hi => h.element_ofNat_addr (e := .keyBit slot i) ⟨hslot, hi⟩,
    fun c y x hc hy hx => h.element_ofNat_addr (e := .img c y x) ⟨hc, hy, hx⟩,
    fun p y x hp hy hx => h.element_ofNat_addr (e := .pln p y x) ⟨hp, hy, hx⟩, fun a e he => ?_,
    rfl, rfl, rfl, rfl, fun r => ⟨s.key_evenSlot r, s.key_oddSlot r⟩⟩
  · have hspace : a.toNat / 0x20000000 = 0 := by omega
    simp only [State.element, decodeAddr, hspace]
  · obtain ⟨hexists, haddr⟩ := h.element_eq_some_iff.1 he
    cases e with
    | csr n => exact .inl ⟨haddr ▸ hexists, by rw [haddr]; rfl⟩
    | keyBit slot i =>
      obtain ⟨hslot, hi⟩ := hexists
      exact .inr (.inl ⟨slot, i, hslot, hi, haddr, rfl⟩)
    | img c y x =>
      obtain ⟨hc, hy, hx⟩ := hexists
      exact .inr (.inr (.inl ⟨c, y, x, hc, hy, hx, haddr, rfl⟩))
    | pln p y x =>
      obtain ⟨hp, hy, hx⟩ := hexists
      exact .inr (.inr (.inr ⟨p, y, x, hp, hy, hx, haddr, rfl⟩))

/-! ### The bits an element keeps -/

/-- Cutting a word to its low bits and extending it again masks them. -/
theorem setWidth_setWidth_eq_and (w : Word) {k : Nat} (hk : k ≤ 32) :
    (w.setWidth k).setWidth 32 = w &&& BitVec.ofNat 32 (2 ^ k - 1) := by
  have hmask : 2 ^ k - 1 < 2 ^ 32 := by
    have hpow : 2 ^ k ≤ 2 ^ 32 := Nat.pow_le_pow_right (by omega) hk
    omega
  apply BitVec.eq_of_toNat_eq
  rw [BitVec.toNat_setWidth_of_le hk, BitVec.toNat_setWidth, BitVec.toNat_and, BitVec.toNat_ofNat,
    Nat.mod_eq_of_lt hmask, Nat.and_two_pow_sub_one_eq_mod]

theorem toNat_bitByte (b : Bool) : (bitByte b).toNat = b.toNat := by cases b <;> rfl

theorem setWidth_bitByte_getLsbD_zero (w : Word) : (bitByte (w.getLsbD 0)).setWidth 32 = w &&& 1 := by
  have hbit : (w.getLsbD 0).toNat = w.toNat % 2 := by
    rw [BitVec.getLsbD, Nat.toNat_testBit, pow_zero, Nat.div_one]
  apply BitVec.eq_of_toNat_eq
  rw [BitVec.toNat_setWidth_of_le (by omega), toNat_bitByte, hbit, BitVec.toNat_and]
  exact (Nat.and_one_is_mod _).symm

/-! ### The key slots of the port -/

theorem State.pair_setPair_self (s : State) {r : Nat} (h : r < s.rmax) (pair : KeyPair) :
    (s.setPair r pair).pair r = pair := by
  have hslot : r < s.rks.length := h
  simp [State.pair, State.setPair, hslot]

theorem State.key_setKey_self (s : State) {slot : Nat} (h : slot < 4 + 2 * s.rmax) (k : Key) :
    (s.setKey slot k).key slot = k := by
  match slot with
  | 0 | 1 | 2 | 3 => rfl
  | n + 4 =>
    have hslot : n / 2 < s.rmax := by omega
    by_cases hparity : n % 2 = 0 <;> simp [State.setKey, State.key, hparity, s.pair_setPair_self hslot]

/-- A key write leaves every other slot's key, also the other key of the same pair. -/
theorem State.key_setKey_of_ne (s : State) {slot other : Nat} (h : other ≠ slot) (hslot : slot < 4 + 2 * s.rmax)
    (k : Key) : (s.setKey slot k).key other = s.key other := by
  simp only [State.setKey]
  split
  case h_5 n =>
    simp only [State.key]
    split
    case h_5 m =>
      by_cases hsame : m / 2 = n / 2
      · have hparity : m % 2 = 0 ↔ ¬ n % 2 = 0 := by omega
        have hbound : n / 2 < s.rmax := by omega
        rw [hsame, s.pair_setPair_self hbound]
        by_cases hn : n % 2 = 0 <;> simp [hparity, hn]
      · rw [s.pair_setPair_of_ne hsame]
    all_goals rfl
  all_goals
    simp only [State.key]
    split <;> trivial

/-- A key write changes key registers and nothing else, and keeps the number of slots. -/
theorem State.setKey_eq (s : State) (slot : Nat) (k : Key) : ∃ k1 k2 fk1 fk2 rks, rks.length = s.rks.length ∧
    s.setKey slot k = { s with k1 := k1, k2 := k2, fk1 := fk1, fk2 := fk2, rks := rks } := by
  simp only [State.setKey]
  split
  case h_5 => exact ⟨_, _, _, _, _, List.length_set, rfl⟩
  all_goals exact ⟨_, _, _, _, _, rfl, rfl⟩

/-! ### A write of another element (`20_memory.md` R60) -/

/-- A CSR write other than CMD's changes the image size and the round count and nothing else. -/
theorem State.writeCsr_eq (s : State) {n : Nat} (h : n ≠ 0) (w : Word) : ∃ dimH dimW rounds,
    s.writeCsr n w = { s with dimH := dimH, dimW := dimW, rounds := rounds } := by
  simp only [State.writeCsr]
  split
  case h_1 => exact absurd rfl h
  all_goals exact ⟨_, _, _, rfl⟩

theorem State.readCsr_writeCsr_of_ne (s : State) {n m : Nat} (h : n ≠ 0) (hne : m ≠ n) (w : Word) :
    (s.writeCsr n w).readCsr m = s.readCsr m := by
  simp only [State.writeCsr]
  split
  case h_1 => exact absurd rfl h
  case h_5 => rfl
  all_goals
    simp only [State.readCsr]
    split <;> trivial

/-- A byte stored anywhere but at an element's address leaves the element's value. -/
theorem State.readElement_writeMem_of_ne (s : State) {e : Element} {a : Nat} (h : e.addr ≠ a) (v : Byte) :
    State.readElement { s with mem := s.mem.write a v } e = s.readElement e := by
  cases e with
  | csr n => rfl
  | keyBit slot i => rfl
  | img c y x => exact congrArg (BitVec.setWidth 32) (Memory.read_write_of_ne h v)
  | pln p y x =>
    exact congrArg (fun cell : Byte => (bitByte (cell.getLsbD 0)).setWidth 32) (Memory.read_write_of_ne h v)

/-- A write of anything but CMD changes the value of no element at another address. -/
theorem State.readElement_writeElement_of_ne (s : State) {e e' : Element} (hcmd : e ≠ .csr 0)
    (hexists : e.Exists s.params s.rmax) (hne : e'.addr ≠ e.addr) (w : Word) :
    (s.writeElement e w).readElement e' = s.readElement e' := by
  cases e with
  | csr n =>
    have hn : n ≠ 0 := fun hn => hcmd (hn ▸ rfl)
    cases e' with
    | csr m => exact s.readCsr_writeCsr_of_ne hn hne w
    | keyBit slot i | img c y x | pln p y x =>
      obtain ⟨dimH, dimW, rounds, heq⟩ := s.writeCsr_eq hn w
      simp only [State.writeElement, heq]
      rfl
  | keyBit slot i =>
    cases e' with
    | keyBit slot' i' =>
      simp only [State.writeElement, State.readElement]
      by_cases hslot : slot' = slot
      · subst hslot
        have hi : i' ≠ i := fun hi => hne (hi ▸ rfl)
        rw [s.key_setKey_self hexists.1, Key.bit_setBit_of_ne _ hi]
      · rw [s.key_setKey_of_ne hslot hexists.1]
    | csr m | img c y x | pln p y x =>
      obtain ⟨k1, k2, fk1, fk2, rks, hlength, heq⟩ := s.setKey_eq slot ((s.key slot).setBit i (w.getLsbD 0))
      simp only [State.writeElement, heq, State.readElement, State.readCsr, State.param0, State.param1, State.rmax,
        hlength, State.img, State.pln]
  | img c y x => exact s.readElement_writeMem_of_ne hne _
  | pln p y x => exact s.readElement_writeMem_of_ne hne _

/-- A write of anything but CMD leaves STATUS and PEND alone. -/
theorem State.writeElement_status_pend (s : State) {e : Element} (hcmd : e ≠ .csr 0) (w : Word) :
    (s.writeElement e w).status = s.status ∧ (s.writeElement e w).pend = s.pend := by
  cases e with
  | csr n =>
    obtain ⟨dimH, dimW, rounds, heq⟩ := s.writeCsr_eq (fun hn => hcmd (hn ▸ rfl)) w
    simp only [State.writeElement, heq, and_self]
  | keyBit slot i =>
    obtain ⟨k1, k2, fk1, fk2, rks, -, heq⟩ := s.setKey_eq slot ((s.key slot).setBit i (w.getLsbD 0))
    simp only [State.writeElement, heq, and_self]
  | img c y x => exact ⟨rfl, rfl⟩
  | pln p y x => exact ⟨rfl, rfl⟩

/-! ### A write of the same element (`20_memory.md` R60) -/

theorem State.readElement_write_img {s : State} (h : s.mem.wf = true) (c y x : Nat) (w : Word) :
    (s.writeElement (.img c y x) w).readElement (.img c y x) = w &&& 0xFF := by
  simp only [State.readElement, State.writeElement, State.img, Memory.read_write_self h]
  exact setWidth_setWidth_eq_and w (k := 8) (by omega)

theorem State.readElement_write_pln {s : State} (h : s.mem.wf = true) (p y x : Nat) (w : Word) :
    (s.writeElement (.pln p y x) w).readElement (.pln p y x) = w &&& 1 := by
  simp only [State.readElement, State.writeElement, State.pln, Memory.read_write_self h, bitByte_getLsbD_zero]
  exact setWidth_bitByte_getLsbD_zero w

theorem State.readElement_write_keyBit (s : State) {slot i : Nat} (hslot : slot < 4 + 2 * s.rmax) (hi : i < 128)
    (w : Word) : (s.writeElement (.keyBit slot i) w).readElement (.keyBit slot i) = w &&& 1 := by
  simp only [State.readElement, State.writeElement, s.key_setKey_self hslot, Key.bit_setBit_self _ hi]
  exact setWidth_bitByte_getLsbD_zero w

/-- The answer on the port is no part of an element's value. -/
theorem State.readElement_answer (s : State) (r : Response) (e : Element) :
    State.readElement { s with port := none, response := some r } e = s.readElement e := by
  cases e <;> rfl

/-- Settles O17: an address names an element that exists at it, so another address names one elsewhere. -/
theorem portWriteThenRead : Obligations.PortWriteThenRead := by
  intro s a w e h he
  obtain ⟨hexists, haddr⟩ := h.element_eq_some_iff.1 he
  have hread : ∀ e', (s.transact (.write a w)).readElement e' = (s.writeElement e w).readElement e' := fun e' => by
    rw [State.transact_write he, State.readElement_answer]
  refine ⟨fun tr _ hport hbusy => ⟨fun hturn => ?_, fun rest hturn => ?_⟩, State.transact_read he, ?_, ?_, ?_,
    fun hcmd => ?_⟩
  · rw [step_of_no_turn hturn, State.settle_of_port hbusy hport]
  · rw [step_of_grant_not_held hturn hport (State.holds_of_idle hbusy tr), State.transact_agenda]
  · rintro c y x rfl
    exact BitVec.toNat_setWidth_of_le (by omega)
  · rintro p y x rfl
    exact (BitVec.toNat_setWidth_of_le (by omega)).trans (toNat_bitByte _)
  · rintro slot i rfl
    exact (BitVec.toNat_setWidth_of_le (by omega)).trans (toNat_bitByte _)
  simp only [hread]
  obtain ⟨hstatus, hpend⟩ := s.writeElement_status_pend hcmd w
  rw [State.transact_write he]
  refine ⟨rfl, rfl, hstatus, hpend, ?_, ?_, ?_, ?_, ?_, ?_, fun b e' he' hne => ?_⟩
  · rintro c y x rfl
    exact State.readElement_write_img h.memWf c y x w
  · rintro p y x rfl
    exact State.readElement_write_pln h.memWf p y x w
  · rintro slot i rfl
    exact s.readElement_write_keyBit hexists.1 hexists.2 w
  · rintro (rfl | rfl) <;> exact setWidth_setWidth_eq_and w (k := 13) (by omega)
  · rintro rfl
    exact setWidth_setWidth_eq_and w (k := 7) (by omega)
  · rintro (rfl | rfl | rfl) <;> rfl
  · obtain ⟨-, haddr'⟩ := h.element_eq_some_iff.1 he'
    refine s.readElement_writeElement_of_ne hcmd hexists (fun hsame => hne ?_) w
    have hword : b = a := BitVec.eq_of_toNat_eq (by rw [haddr, haddr', hsame])
    exact Option.some.inj (he'.symm.trans (hword ▸ he))

end Sys2Proof.Machine
end

section
/-! PROOFS. The command word (`30_encoding.md` R80 to R88): a word decodes exactly when it matches a row of the opcode
map, the one its OP names. Both round trips between words and commands, and the illegal words, follow from it. -/

namespace Sys2Proof

/-! ### The words of a row of the opcode map -/

/-- `w` is one of the row's words: it agrees with the row's `match` under its `mask` (`30_encoding.md` R82). -/
def Row.Matches (row : Row) (w : Word) : Prop := w &&& row.format.mask = row.matchWord

/-- The `match` of a row, field by field. -/
theorem Row.matchWord_eq_assemble (row : Row) : row.matchWord = assemble 0 0 0 row.op := by
  rw [Row.matchWord, ← assemble_and_maskN]
  exact BitVec.and_allOnes

/-- A field with all its bits masked is the one of the row's `match`. -/
theorem Row.Matches.extractLsb'_eq {row : Row} {w : Word} (h : row.Matches w) {start len : Nat}
    (hmask : row.format.mask.extractLsb' start len = BitVec.allOnes len) :
    w.extractLsb' start len = row.matchWord.extractLsb' start len := by
  rw [← h, BitVec.extractLsb'_and, hmask, BitVec.and_allOnes]

/-- Every format masks OP. -/
theorem Row.Matches.opField_eq {row : Row} {w : Word} (h : row.Matches w) : opField w = row.op := by
  have hmask : row.format.mask.extractLsb' 0 8 = BitVec.allOnes 8 := by cases row.format <;> rfl
  calc opField w = opField row.matchWord := h.extractLsb'_eq hmask
    _ = row.op := by rw [row.matchWord_eq_assemble, opField_assemble]

/-- A masked field above OP is zero. -/
theorem Row.Matches.extractLsb'_eq_zero {row : Row} {w : Word} (h : row.Matches w) {start len : Nat}
    (hstart : 8 ≤ start) (hmask : row.format.mask.extractLsb' start len = BitVec.allOnes len) :
    w.extractLsb' start len = 0 := by
  rw [h.extractLsb'_eq hmask]
  ext i hi
  simp [Row.matchWord, BitVec.getLsbD_of_ge row.op (start + i) (by omega)]

/-- No two rows have the same OP value (`30_encoding.md` R83). -/
theorem row_eq_of_op_eq {row row' : Row} (hrow : row ∈ opcodeTable) (hrow' : row' ∈ opcodeTable)
    (h : row.op = row'.op) : row = row' :=
  List.inj_on_of_nodup_map (f := Row.op) (by decide) hrow hrow' h

/-- A word matches at most one row (`30_encoding.md` R85). -/
theorem Row.Matches.unique {row row' : Row} {w : Word} (h : row.Matches w) (h' : row'.Matches w)
    (hrow : row ∈ opcodeTable) (hrow' : row' ∈ opcodeTable) : row = row' :=
  row_eq_of_op_eq hrow hrow' (h.opField_eq.symm.trans h'.opField_eq)

/-- The decoder looks up the row with the word's OP. -/
theorem find?_opcodeTable {row : Row} {w : Word} (hrow : row ∈ opcodeTable) (h : row.op = opField w) :
    opcodeTable.find? (fun row => row.op == opField w) = some row := by
  cases hfind : opcodeTable.find? (fun row => row.op == opField w) with
  | none => exact absurd (beq_iff_eq.2 h) (List.find?_eq_none.1 hfind row hrow)
  | some found =>
    have hop : found.op = opField w := beq_iff_eq.1 (List.find?_some (p := fun row : Row => row.op == opField w) hfind)
    rw [row_eq_of_op_eq (List.mem_of_find?_eq_some hfind) hrow (hop.trans h.symm)]

/-- What decodes matches a row, and stands for that row's command (`30_encoding.md` R86). -/
theorem decode_eq_ok_iff {w : Word} {i : Instr} :
    decode w = .ok i ↔ ∃ row ∈ opcodeTable, row.Matches w ∧ row.operands w = i := by
  constructor
  · intro h
    simp only [decode] at h
    split at h
    case h_1 => cases h
    case h_2 row hfind =>
      split at h
      case isTrue hmatch => exact ⟨row, List.mem_of_find?_eq_some hfind, hmatch, Except.ok.inj h⟩
      case isFalse => cases h
  · rintro ⟨row, hrow, hmatch, rfl⟩
    simp only [decode, find?_opcodeTable hrow hmatch.opField_eq.symm]
    exact if_pos hmatch

/-! ### From a command to its word and back -/

/-- Every command's word matches a row (`30_encoding.md` R82, R83). -/
theorem encodesItsRow (i : Instr) : Laws.EncodesItsRow.Statement i := by
  cases i with
  | nop => exact Laws.EncodesItsRow.nop
  | errclr => exact Laws.EncodesItsRow.errclr
  | decomp => exact Laws.EncodesItsRow.decomp
  | recomp => exact Laws.EncodesItsRow.recomp
  | rowp dir => exact Laws.EncodesItsRow.rowp dir
  | colp dir => exact Laws.EncodesItsRow.colp dir
  | kupd => exact Laws.EncodesItsRow.kupd
  | kst r => exact Laws.EncodesItsRow.kst r
  | kld r => exact Laws.EncodesItsRow.kld r
  | kfin => exact Laws.EncodesItsRow.kfin
  | scr => exact Laws.EncodesItsRow.scr
  | uscr => exact Laws.EncodesItsRow.uscr
  | frot p steps => exact Laws.EncodesItsRow.frot p steps
  | frotk p dir => exact Laws.EncodesItsRow.frotk p dir
  | frota dir => exact Laws.EncodesItsRow.frota dir
  | pshuf => exact Laws.EncodesItsRow.pshuf
  | enc => exact Laws.EncodesItsRow.enc
  | dec => exact Laws.EncodesItsRow.dec

/-- DIR carries the direction (`30_encoding.md` R84). -/
@[simp] theorem Dir.ite_bit (dir : Dir) : (if dir.bit[0] = true then Dir.inv else Dir.fwd) = dir := by
  cases dir <;> rfl

/-- A step count in range survives the 16-bit field (`30_encoding.md` R84). -/
theorem toInt_ofInt_of_stepsField {steps : Int} (h : stepsField steps) : (BitVec.ofInt 16 steps).toInt = steps :=
  BitVec.toInt_ofInt_eq_self (by decide) h.1 (by omega)

/-- The row with the OP of a well-formed command's word reads the operands back from it (`30_encoding.md` R84). -/
theorem operands_encode {i : Instr} (h : i.WellFormed) :
    ∀ row ∈ opcodeTable, row.op = opField (encode i) → row.operands (encode i) = i := by
  cases i with
  | kst r =>
    have hr : r < 65536 := of_decide_eq_true h
    simp [opcodeTable, encode, Nat.mod_eq_of_lt hr]
  | kld r =>
    have hr : r < 65536 := of_decide_eq_true h
    simp [opcodeTable, encode, Nat.mod_eq_of_lt hr]
  | frot p steps =>
    obtain ⟨hp, hsteps⟩ : p < 32 ∧ stepsField steps := by simpa [Instr.WellFormed, Instr.wellFormed] using h
    simp [opcodeTable, encode, Nat.mod_eq_of_lt hp, toInt_ofInt_of_stepsField hsteps]
  | frotk p dir =>
    have hp : p < 32 := of_decide_eq_true h
    simp [opcodeTable, encode, Nat.mod_eq_of_lt hp]
  | _ => simp [opcodeTable, encode]

/-- Settles O2: the command's word matches its row, which reads its operands back. -/
theorem decodeOfEncode : Obligations.DecodeOfEncode := by
  intro i hwf
  obtain ⟨row, hrow, hop, hmatch⟩ := encodesItsRow i
  exact decode_eq_ok_iff.2 ⟨row, hrow, hmatch, operands_encode hwf row hrow hop⟩

/-! ### From a word to its command and back -/

/-- A word of a row is made of its fields: RSV is zero in every format, and OP is the row's. -/
theorem Row.Matches.assemble_fields {row : Row} {w : Word} (h : row.Matches w) :
    assemble (immField w) (w.extractLsb' 9 5) (w.extractLsb' 8 1) row.op = w := by
  have hrsv : w.extractLsb' 14 2 = 0#2 := h.extractLsb'_eq_zero (by decide) (by cases row.format <;> rfl)
  rw [assemble, ← hrsv, ← h.opField_eq, immField, opField]
  iterate 4 rw [BitVec.extractLsb'_append_extractLsb'_eq_extractLsb' (by rfl)]
  exact BitVec.extractLsb'_eq_self

/-- IMM is no operand of formats N, D and PD (`30_encoding.md` R82). -/
theorem Row.Matches.immField_eq_zero {row : Row} {w : Word} (h : row.Matches w)
    (hformat : row.format = .n ∨ row.format = .d ∨ row.format = .pd) : immField w = 0 :=
  h.extractLsb'_eq_zero (by decide) (by rcases hformat with hf | hf | hf <;> rw [hf] <;> rfl)

/-- P is no operand of formats N, D and R (`30_encoding.md` R82). -/
theorem Row.Matches.pBits_eq_zero {row : Row} {w : Word} (h : row.Matches w)
    (hformat : row.format = .n ∨ row.format = .d ∨ row.format = .r) : w.extractLsb' 9 5 = 0 :=
  h.extractLsb'_eq_zero (by decide) (by rcases hformat with hf | hf | hf <;> rw [hf] <;> rfl)

/-- DIR is no operand of formats N, PI and R (`30_encoding.md` R82). -/
theorem Row.Matches.dirBit_eq_zero {row : Row} {w : Word} (h : row.Matches w)
    (hformat : row.format = .n ∨ row.format = .pi ∨ row.format = .r) : w.extractLsb' 8 1 = 0 :=
  h.extractLsb'_eq_zero (by decide) (by rcases hformat with hf | hf | hf <;> rw [hf] <;> rfl)

theorem bit_dirField (w : Word) : (dirField w).bit = w.extractLsb' 8 1 := by
  apply BitVec.eq_of_getLsbD_eq
  intro i hi
  obtain rfl : i = 0 := by omega
  rw [dirField, BitVec.getLsbD_extractLsb']
  cases w.getLsbD 8 <;> rfl

theorem ofNat_pField (w : Word) : BitVec.ofNat 5 (pField w) = w.extractLsb' 9 5 := by
  rw [pField, BitVec.ofNat_toNat, BitVec.setWidth_eq]

/-- Every word of the row stands for a well-formed command, and is that command's word. -/
def Row.Faithful (row : Row) : Prop :=
  ∀ w, row.Matches w → (row.operands w).WellFormed ∧ encode (row.operands w) = w

section
variable {name : String} {op : BitVec 8}

theorem faithful_formatN {i : Instr} (hwf : i.WellFormed) (henc : encode i = assemble 0 0 0 op) :
    Row.Faithful ⟨name, op, .n, fun _ => i⟩ := fun w h => by
  have himm : immField w = 0 := h.immField_eq_zero (.inl rfl)
  have hp : w.extractLsb' 9 5 = 0 := h.pBits_eq_zero (.inl rfl)
  have hdir : w.extractLsb' 8 1 = 0 := h.dirBit_eq_zero (.inl rfl)
  have hw := h.assemble_fields
  rw [himm, hp, hdir] at hw
  exact ⟨hwf, henc.trans hw⟩

theorem faithful_formatD {command : Dir → Instr} (hwf : ∀ dir, (command dir).WellFormed)
    (henc : ∀ dir, encode (command dir) = assemble 0 0 dir.bit op) :
    Row.Faithful ⟨name, op, .d, fun w => command (dirField w)⟩ := fun w h => by
  have himm : immField w = 0 := h.immField_eq_zero (.inr (.inl rfl))
  have hp : w.extractLsb' 9 5 = 0 := h.pBits_eq_zero (.inr (.inl rfl))
  have hw := h.assemble_fields
  rw [himm, hp, ← bit_dirField] at hw
  exact ⟨hwf _, (henc _).trans hw⟩

theorem faithful_formatR {command : Nat → Instr} (hwf : ∀ r, slotField r → (command r).WellFormed)
    (henc : ∀ r, encode (command r) = assemble (BitVec.ofNat 16 r) 0 0 op) :
    Row.Faithful ⟨name, op, .r, fun w => command (immField w).toNat⟩ := fun w h => by
  have hp : w.extractLsb' 9 5 = 0 := h.pBits_eq_zero (.inr (.inr rfl))
  have hdir : w.extractLsb' 8 1 = 0 := h.dirBit_eq_zero (.inr (.inr rfl))
  have hw := h.assemble_fields
  rw [hp, hdir] at hw
  refine ⟨hwf _ (immField w).isLt, (henc _).trans ?_⟩
  rw [BitVec.ofNat_toNat, BitVec.setWidth_eq, hw]

theorem faithful_formatPD {command : Nat → Dir → Instr} (hwf : ∀ p dir, planeField p → (command p dir).WellFormed)
    (henc : ∀ p dir, encode (command p dir) = assemble 0 (BitVec.ofNat 5 p) dir.bit op) :
    Row.Faithful ⟨name, op, .pd, fun w => command (pField w) (dirField w)⟩ := fun w h => by
  have himm : immField w = 0 := h.immField_eq_zero (.inr (.inr rfl))
  have hw := h.assemble_fields
  rw [himm, ← ofNat_pField, ← bit_dirField] at hw
  exact ⟨hwf _ _ (BitVec.isLt _), (henc _ _).trans hw⟩

theorem faithful_formatPI {command : Nat → Int → Instr}
    (hwf : ∀ p steps, planeField p → stepsField steps → (command p steps).WellFormed)
    (henc : ∀ p steps, encode (command p steps) = assemble (BitVec.ofInt 16 steps) (BitVec.ofNat 5 p) 0 op) :
    Row.Faithful ⟨name, op, .pi, fun w => command (pField w) (immField w).toInt⟩ := fun w h => by
  have hdir : w.extractLsb' 8 1 = 0 := h.dirBit_eq_zero (.inr (.inl rfl))
  have hsteps : stepsField (immField w).toInt :=
    ⟨BitVec.le_toInt _, Int.le_of_lt_add_one (BitVec.toInt_lt (x := immField w))⟩
  have hw := h.assemble_fields
  rw [hdir, ← ofNat_pField] at hw
  refine ⟨hwf _ _ (BitVec.isLt _) hsteps, (henc _ _).trans ?_⟩
  rw [BitVec.ofInt_toInt, hw]

end

/-- The operand fields fit: each row of the opcode map is faithful, by its format. -/
theorem faithful_of_mem_opcodeTable : ∀ row ∈ opcodeTable, row.Faithful := by
  have hslot : ∀ r, slotField r → decide (slotField r) = true := fun _ => decide_eq_true
  have hplane : ∀ p, planeField p → decide (planeField p) = true := fun _ => decide_eq_true
  have hsteps : ∀ steps, stepsField steps → decide (stepsField steps) = true := fun _ => decide_eq_true
  have frot : Row.Faithful ⟨"FROT", 0x30, .pi, fun w => .frot (pField w) (immField w).toInt⟩ :=
    faithful_formatPI (fun p steps hp hs => Bool.and_eq_true_iff.2 ⟨hplane p hp, hsteps steps hs⟩) fun _ _ => rfl
  have frotk : Row.Faithful ⟨"FROTK", 0x31, .pd, fun w => .frotk (pField w) (dirField w)⟩ :=
    faithful_formatPD (fun p _ => hplane p) fun _ _ => rfl
  simp only [opcodeTable, List.forall_mem_cons]
  exact ⟨faithful_formatN rfl rfl, faithful_formatN rfl rfl, faithful_formatN rfl rfl, faithful_formatN rfl rfl,
    faithful_formatD (fun _ => rfl) fun _ => rfl, faithful_formatD (fun _ => rfl) fun _ => rfl,
    faithful_formatN rfl rfl, faithful_formatR hslot fun _ => rfl, faithful_formatR hslot fun _ => rfl,
    faithful_formatN rfl rfl, faithful_formatN rfl rfl, faithful_formatN rfl rfl, frot, frotk,
    faithful_formatD (fun _ => rfl) fun _ => rfl, faithful_formatN rfl rfl, faithful_formatN rfl rfl,
    faithful_formatN rfl rfl, List.forall_mem_nil _⟩

/-- Settles O3: a word that decodes matches a row, and every row is faithful. -/
theorem encodeOfDecode : Obligations.EncodeOfDecode := by
  intro w i h
  obtain ⟨row, hrow, hmatch, rfl⟩ := decode_eq_ok_iff.1 h
  exact faithful_of_mem_opcodeTable row hrow w hmatch

/-! ### Legal and illegal words -/

/-- The listed `match` and `mask` values are those of the opcode map. -/
theorem mem_opcodeRows_iff {pair : Word × Word} :
    pair ∈ Machine.opcodeRows ↔ ∃ row ∈ opcodeTable, (row.matchWord, row.format.mask) = pair := by
  have hrows : Machine.opcodeRows = opcodeTable.map fun row => (row.matchWord, row.format.mask) := by decide
  rw [hrows, List.mem_map]

/-- Matching a listed pair is matching a row of the opcode map. -/
theorem exists_mem_opcodeRows_iff {w : Word} :
    (∃ pair ∈ Machine.opcodeRows, w &&& pair.2 = pair.1) ↔ ∃ row ∈ opcodeTable, row.Matches w := by
  simp [mem_opcodeRows_iff, Row.Matches]

/-- A word is legal exactly when it matches a listed pair (`30_encoding.md` R85). -/
theorem exists_decode_eq_ok_iff {w : Word} :
    (∃ i, decode w = .ok i) ↔ ∃ pair ∈ Machine.opcodeRows, w &&& pair.2 = pair.1 := by
  rw [exists_mem_opcodeRows_iff]
  simp [decode_eq_ok_iff]

namespace Machine

/-- The Engine step on a word that stands for no command is the E_ILLCMD abort (`60_exceptions.md` R193). -/
theorem State.engineStep_of_illegal {s : State} {w : Word} (h : ¬ ∃ i, decode w = .ok i) :
    s.engineStep w = .next (s.raise .illCmd) := by
  obtain ⟨i, hi, -⟩ | ⟨-, -, ho⟩ := s.engineStep_cases w
  · exact absurd ⟨i, hi⟩ h
  · exact ho

end Machine

/-- Settles O4: rows differ in OP, legal words are those of the rows, and the Engine step decodes before all else. -/
theorem illegalWordsRaiseIllCmd : Obligations.IllegalWordsRaiseIllCmd := by
  refine ⟨fun w pair hpair pair' hpair' h h' => ?_, fun w => exists_decode_eq_ok_iff, fun s hturn hbusy hno => ?_⟩
  · obtain ⟨row, hrow, rfl⟩ := mem_opcodeRows_iff.1 hpair
    obtain ⟨row', hrow', rfl⟩ := mem_opcodeRows_iff.1 hpair'
    rw [Row.Matches.unique h h' hrow hrow']
  · have hillegal : ¬ ∃ i, decode s.pend = .ok i := fun hi =>
      let ⟨pair, hpair, hmatch⟩ := exists_decode_eq_ok_iff.1 hi
      hno pair hpair hmatch
    rw [Machine.step_of_no_turn hturn, Machine.State.settle_of_busy hbusy,
      Machine.State.engineStep_of_illegal hillegal]
    rfl

/-- Settles O1: each word's OP picks its row, whose fields are read off. -/
theorem specWordsDecode : Obligations.SpecWordsDecode :=
  ⟨rfl, rfl, rfl, rfl, rfl, rfl, rfl, rfl⟩

end Sys2Proof
end

section
/-! PROOFS. The key functions on bit-strings (`40_key_functions.md` R100 to R104, R111), bit by bit: what each one's bits
are, that `update1` is undone by the steps of R111 (c), and which bit-strings it fixes. -/

namespace Sys2Proof.Machine

/-! ### Bit-strings, bit by bit -/

/-- Bit-strings of one length are equal when their bits are. -/
theorem ext_bitAt {k l : BitString} (hlen : k.length = l.length) (h : ∀ i < k.length, bitAt k i = bitAt l i) :
    k = l := by
  refine List.ext_getElem hlen fun i hk hl => ?_
  have hbit := h i hk
  rwa [bitAt, bitAt, List.getD_eq_getElem _ _ hk, List.getD_eq_getElem _ _ hl] at hbit

theorem eq_iff_bitAt {k l : BitString} {n : Nat} (hk : k.length = n) (hl : l.length = n) :
    k = l ↔ ∀ i < n, bitAt k i = bitAt l i :=
  ⟨fun h _ _ => h ▸ rfl, fun h => ext_bitAt (hk.trans hl.symm) fun i hi => h i (hk ▸ hi)⟩

theorem bitAt_append_of_lt {k : BitString} (l : BitString) {i : Nat} (h : i < k.length) :
    bitAt (k ++ l) i = bitAt k i := List.getD_append _ _ _ _ h

theorem bitAt_append_of_le {k : BitString} (l : BitString) {i : Nat} (h : k.length ≤ i) :
    bitAt (k ++ l) i = bitAt l (i - k.length) := List.getD_append_right _ _ _ _ h

theorem bitAt_replicate (b : Bool) {n i : Nat} (h : i < n) : bitAt (List.replicate n b) i = b :=
  List.getD_replicate _ h

theorem bitAt_cons_succ (b : Bool) (k : BitString) (i : Nat) : bitAt (b :: k) (i + 1) = bitAt k i := rfl

/-! ### Windows and rotation -/

theorem bitAt_getBits (k : BitString) (start : Nat) {n j : Nat} (h : j < n) :
    bitAt (getBits k start n) j = bitAt k ((start + j) % k.length) := bitAt_map_range _ h

theorem bitAt_rotl1 {k : BitString} {i : Nat} (h : i < k.length) :
    bitAt (rotl1 k) i = bitAt k ((i + 1) % k.length) := bitAt_map_range _ h

/-- The first bit is removed and appended at the end (`40_key_functions.md` R101). -/
theorem rotl1_cons (b : Bool) (k : BitString) : rotl1 (b :: k) = k ++ [b] := by
  refine ext_bitAt (by simp) fun i hi => ?_
  rw [length_rotl1] at hi
  rw [bitAt_rotl1 hi]
  rw [List.length_cons] at hi ⊢
  obtain hlt | rfl : i < k.length ∨ i = k.length := by omega
  · rw [Nat.mod_eq_of_lt (by omega), bitAt_cons_succ, bitAt_append_of_lt _ hlt]
  · rw [Nat.mod_self, bitAt_append_of_le _ le_rfl, Nat.sub_self]
    rfl

/-- A 4-bit window as a number, its first bit the most significant (`40_key_functions.md` R102). -/
theorem win4_eq (k : BitString) (off : Nat) :
    win4 k off = 8 * (bitAt k (off % k.length)).toNat + 4 * (bitAt k ((off + 1) % k.length)).toNat
      + 2 * (bitAt k ((off + 2) % k.length)).toNat + (bitAt k ((off + 3) % k.length)).toNat := by
  have hdigit : ∀ j < 4, digit (getBits k off 4) j = (bitAt k ((off + j) % k.length)).toNat :=
    fun j hj => congrArg Bool.toNat (bitAt_getBits k off hj)
  rw [win4, hdigit 0 (by decide), hdigit 1 (by decide), hdigit 2 (by decide), hdigit 3 (by decide), Nat.add_zero]

/-- Settles O22: the bits of the three functions, each by its own lemma. -/
theorem windowFunctionsWrapAround : Obligations.WindowFunctionsWrapAround :=
  ⟨fun k start n _ => ⟨length_getBits k start n, fun _ => bitAt_getBits k start⟩, rfl, rotl1_cons,
    fun _ _ _ => bitAt_rotl1, fun k off _ => ⟨win4_le k off, win4_eq k off⟩⟩

/-! ### The reduced key -/

/-- The positions below n that a reduced key keeps, in order: three of every four (`40_key_functions.md` R103). -/
theorem filter_range_keptPositions (n : Nat) :
    ((List.range n).filter fun i => i % 4 != 3) = (List.range (n - n / 4)).map fun m => m + m / 3 := by
  induction n with
  | zero => rfl
  | succ n ih =>
    rw [List.range_succ, List.filter_append, ih]
    by_cases hdrop : n % 4 = 3
    · rw [List.filter_singleton, hdrop, show n + 1 - (n + 1) / 4 = n - n / 4 by omega]
      simp
    · have hkept : n - n / 4 + (n - n / 4) / 3 = n := by omega
      rw [show n + 1 - (n + 1) / 4 = n - n / 4 + 1 by omega, List.range_succ, List.map_append]
      simp [hdrop, hkept]

theorem reduce_eq_map_range (k : BitString) :
    reduce k = (List.range (k.length - k.length / 4)).map fun m => bitAt k (m + m / 3) := by
  rw [reduce, filter_range_keptPositions, List.map_map]
  rfl

theorem length_reduce (k : BitString) : (reduce k).length = k.length - k.length / 4 := by
  rw [reduce_eq_map_range, List.length_map, List.length_range]

theorem bitAt_reduce {k : BitString} {m : Nat} (h : m < (reduce k).length) :
    bitAt (reduce k) m = bitAt k (m + m / 3) := by
  rw [length_reduce] at h
  rw [reduce_eq_map_range, bitAt_map_range _ h]

/-- Settles O23: the kept positions are listed in order. -/
theorem reduceDropsEveryFourthBit : Obligations.ReduceDropsEveryFourthBit := fun k =>
  ⟨length_reduce k, fun _ => bitAt_reduce⟩

/-! ### The three steps of update1 -/

theorem bitAt_foldHalves {s : BitString} {i : Nat} (h : i < s.length) :
    bitAt (foldHalves s) i = if i < s.length / 2 then bitAt s i ^^ bitAt s (i + s.length / 2) else bitAt s i :=
  bitAt_map_range _ h

theorem bitAt_flipLast {t : BitString} {i : Nat} (h : i < t.length) :
    bitAt (flipLast t) i = if i + 1 = t.length then !bitAt t i else bitAt t i := bitAt_map_range _ h

/-- Flipping the last bit twice restores it. -/
theorem flipLast_flipLast (t : BitString) : flipLast (flipLast t) = t := by
  refine ext_bitAt (by simp) fun i hi => ?_
  rw [length_flipLast, length_flipLast] at hi
  rw [bitAt_flipLast (by simpa using hi), bitAt_flipLast hi, length_flipLast]
  split_ifs <;> simp

/-- The second half passes through, so xoring it into the first half twice restores the first. -/
theorem foldHalves_foldHalves (s : BitString) : foldHalves (foldHalves s) = s := by
  refine ext_bitAt (by simp) fun i hi => ?_
  rw [length_foldHalves, length_foldHalves] at hi
  rw [bitAt_foldHalves (by simpa using hi), bitAt_foldHalves hi, length_foldHalves]
  by_cases hfirst : i < s.length / 2
  · rw [bitAt_foldHalves (by omega), if_pos hfirst, if_pos hfirst, if_neg (by omega), Bool.xor_assoc, Bool.xor_self,
      Bool.xor_false]
  · rw [if_neg hfirst, if_neg hfirst]

/-- The rotation that undoes `rotl1` (`40_key_functions.md` R111 (c)). -/
def rotr1 (s : BitString) : BitString :=
  (List.range s.length).map fun i => bitAt s ((i + (s.length - 1)) % s.length)

@[simp] theorem length_rotr1 (s : BitString) : (rotr1 s).length = s.length := by simp [rotr1]

theorem bitAt_rotr1 {s : BitString} {i : Nat} (h : i < s.length) :
    bitAt (rotr1 s) i = bitAt s ((i + (s.length - 1)) % s.length) := bitAt_map_range _ h

theorem rotr1_rotl1 (k : BitString) : rotr1 (rotl1 k) = k := by
  refine ext_bitAt (by simp) fun i hi => ?_
  rw [length_rotr1, length_rotl1] at hi
  have hback : ((i + (k.length - 1)) % k.length + 1) % k.length = i := by
    rw [Nat.mod_add_mod, show i + (k.length - 1) + 1 = i + k.length by omega, Nat.add_mod_right, Nat.mod_eq_of_lt hi]
  rw [bitAt_rotr1 (by simpa using hi), length_rotl1, bitAt_rotl1 (Nat.mod_lt _ (by omega)), hback]

theorem rotl1_rotr1 (s : BitString) : rotl1 (rotr1 s) = s := by
  refine ext_bitAt (by simp) fun i hi => ?_
  rw [length_rotl1, length_rotr1] at hi
  have hback : ((i + 1) % s.length + (s.length - 1)) % s.length = i := by
    rw [Nat.mod_add_mod, show i + 1 + (s.length - 1) = i + s.length by omega, Nat.add_mod_right, Nat.mod_eq_of_lt hi]
  rw [bitAt_rotl1 (by simpa using hi), length_rotr1, bitAt_rotr1 (Nat.mod_lt _ (by omega)), hback]

/-! ### The bits of update1 -/

/-- Each bit of `update1`, from the key: the rotation, the xor and the flip in one (`40_key_functions.md` R104). -/
theorem bitAt_update1 {k : BitString} {half i : Nat} (hlen : k.length = 2 * half) (hi : i < 2 * half) :
    bitAt (update1 k) i =
      if i + 1 = 2 * half then !bitAt k 0
      else if i < half then bitAt k (i + 1) ^^ bitAt k ((i + half + 1) % (2 * half)) else bitAt k (i + 1) := by
  have hrot : ∀ j < 2 * half, bitAt (rotl1 k) j = bitAt k ((j + 1) % (2 * half)) := fun j hj => by
    rw [bitAt_rotl1 (hlen ▸ hj), hlen]
  have hfold : bitAt (foldHalves (rotl1 k)) i =
      if i < half then bitAt (rotl1 k) i ^^ bitAt (rotl1 k) (i + half) else bitAt (rotl1 k) i := by
    rw [bitAt_foldHalves (by simpa [hlen] using hi), length_rotl1, hlen, Nat.mul_div_cancel_left _ (by decide)]
  rw [update1, bitAt_flipLast (by simpa [hlen] using hi), length_foldHalves, length_rotl1, hlen, hfold, hrot i hi]
  by_cases hlast : i + 1 = 2 * half
  · rw [if_pos hlast, if_pos hlast, if_neg (by omega), hlast, Nat.mod_self]
  · rw [if_neg hlast, if_neg hlast, Nat.mod_eq_of_lt (by omega)]
    by_cases hfirst : i < half
    · rw [if_pos hfirst, if_pos hfirst, hrot _ (by omega)]
    · rw [if_neg hfirst, if_neg hfirst]

/-- Settles O24: the three ranges are the branches of `bitAt_update1`. -/
theorem updateOneBitByBit : Obligations.UpdateOneBitByBit := by
  intro k half hhalf hlen
  refine ⟨(length_update1 k).trans hlen, fun i hi => ?_, fun i hle hlt => ?_, ?_⟩
  · rw [bitAt_update1 hlen (by omega), if_neg (by omega), if_pos hi, Nat.mod_eq_of_lt (a := i + 1) (by omega)]
  · rw [bitAt_update1 hlen (by omega), if_neg (by omega), if_neg (by omega)]
  · rw [bitAt_update1 hlen (by omega), if_pos (by omega)]

/-! ### The inverse of update1 -/

/-- The steps of `update1` undone, last to first (`40_key_functions.md` R111 (c)). -/
def undoUpdate1 (u : BitString) : BitString := rotr1 (foldHalves (flipLast u))

@[simp] theorem length_undoUpdate1 (u : BitString) : (undoUpdate1 u).length = u.length := by simp [undoUpdate1]

theorem undoUpdate1_update1 (k : BitString) : undoUpdate1 (update1 k) = k := by
  rw [undoUpdate1, update1, flipLast_flipLast, foldHalves_foldHalves, rotr1_rotl1]

theorem update1_undoUpdate1 (u : BitString) : update1 (undoUpdate1 u) = u := by
  rw [undoUpdate1, update1, rotl1_rotr1, foldHalves_foldHalves, flipLast_flipLast]

/-- The undone flip and xor, index by index, are what R111 (c) calls t and s. -/
theorem bitAt_undoUpdate1 {u : BitString} {half : Nat} (hlen : u.length = 2 * half) {t s : Nat → Bool}
    (ht : ∀ i, t i = if i + 1 = 2 * half then !bitAt u i else bitAt u i)
    (hs : ∀ i, s i = if i < half then t i ^^ t (i + half) else t i) {i : Nat} (hi : i < 2 * half) :
    bitAt (undoUpdate1 u) i = s ((i + (2 * half - 1)) % (2 * half)) := by
  have hflip : ∀ j < 2 * half, bitAt (flipLast u) j = t j := fun j hj => by
    rw [bitAt_flipLast (hlen ▸ hj), hlen, ht]
  have hfold : ∀ j < 2 * half, bitAt (foldHalves (flipLast u)) j = s j := fun j hj => by
    rw [bitAt_foldHalves (by simpa [hlen] using hj), length_flipLast, hlen, Nat.mul_div_cancel_left _ (by decide), hs,
      hflip j hj]
    by_cases hfirst : j < half
    · rw [if_pos hfirst, if_pos hfirst, hflip _ (by omega)]
    · rw [if_neg hfirst, if_neg hfirst]
  rw [undoUpdate1, bitAt_rotr1 (by simpa [hlen] using hi), length_foldHalves, length_flipLast, hlen,
    hfold _ (Nat.mod_lt _ (by omega))]

/-- Settles O26: `undoUpdate1` is the inverse on both sides, and its bits are those of R111 (c). -/
theorem updateOneIsBijective : Obligations.UpdateOneIsBijective := by
  refine ⟨fun u half _ hlen => ⟨undoUpdate1 u, ⟨(length_undoUpdate1 u).trans hlen, update1_undoUpdate1 u⟩, ?_⟩,
    fun k half _ hlen t s ht hs i hi => ?_⟩
  · rintro k ⟨-, rfl⟩
    exact (undoUpdate1_update1 k).symm
  · rw [← bitAt_undoUpdate1 ((length_update1 k).trans hlen) ht hs hi, undoUpdate1_update1]

/-! ### The fixed points of update1 -/

/-- Bit i of the only candidate for a fixed point with first bit `b`: the second half repeats the flipped first bit, and
the first half ends in a 1 and is constant or alternates. -/
def fixedBit (half : Nat) (b : Bool) (i : Nat) : Bool :=
  if i < half then b || decide ((half - i) % 2 = 1) else !b

theorem fixedBit_of_le {half i : Nat} (b : Bool) (h : half ≤ i) : fixedBit half b i = !b := if_neg (by omega)

/-- Within the first half each bit of the candidate is the next one xored with the second half's bit. -/
theorem fixedBit_eq_xor {half i : Nat} (b : Bool) (h : i + 1 < half) :
    fixedBit half b i = (fixedBit half b (i + 1) ^^ !b) := by
  have hparity : (half - i) % 2 = 1 ↔ ¬ (half - (i + 1)) % 2 = 1 := by omega
  rw [fixedBit, fixedBit, if_pos (by omega), if_pos h]
  cases b with
  | true => simp
  | false => simp only [Bool.false_or, decide_eq_decide.2 hparity, decide_not, Bool.not_false, Bool.xor_true]

/-- The candidate's first half ends in a 1. -/
theorem fixedBit_of_succ_eq {half i : Nat} (b : Bool) (h : i + 1 = half) : fixedBit half b i = true := by
  rw [fixedBit, if_pos (by omega), show half - i = 1 by omega]
  simp

/-- Where the key is the candidate above i, `update1` has the candidate's bit at i. -/
theorem bitAt_update1_eq_fixedBit {k : BitString} {half i : Nat} (hlen : k.length = 2 * half) (hi : i < 2 * half)
    (habove : ∀ j, i < j → j < 2 * half → bitAt k j = fixedBit half (bitAt k 0) j) :
    bitAt (update1 k) i = fixedBit half (bitAt k 0) i := by
  rw [bitAt_update1 hlen hi]
  by_cases hlast : i + 1 = 2 * half
  · rw [if_pos hlast, fixedBit_of_le _ (by omega)]
  rw [if_neg hlast, habove (i + 1) (by omega) (by omega)]
  by_cases hsecond : half ≤ i
  · rw [if_neg (by omega), fixedBit_of_le _ (by omega), fixedBit_of_le _ hsecond]
  rw [if_pos (by omega)]
  by_cases hend : i + 1 = half
  · rw [show i + half + 1 = 2 * half by omega, Nat.mod_self, fixedBit_of_le _ hend.ge, fixedBit_of_succ_eq _ hend,
      Bool.not_xor_self]
  · rw [Nat.mod_eq_of_lt (by omega), habove (i + half + 1) (by omega) (by omega),
      fixedBit_of_le (i := i + half + 1) _ (by omega), fixedBit_eq_xor (i := i) _ (by omega)]

/-- A key is fixed exactly when it is the candidate of its first bit, bit by bit from the last. -/
theorem update1_eq_self_iff {k : BitString} {half : Nat} (hlen : k.length = 2 * half) :
    update1 k = k ↔ ∀ i < 2 * half, bitAt k i = fixedBit half (bitAt k 0) i := by
  rw [eq_iff_bitAt ((length_update1 k).trans hlen) hlen]
  constructor
  · intro hfixed i
    induction i using Nat.strong_decreasing_induction with
    | base => exact ⟨2 * half, fun i hgt hlt => absurd hgt hlt.not_gt⟩
    | step i ih =>
      intro hi
      rw [← hfixed i hi]
      exact bitAt_update1_eq_fixedBit hlen hi ih
  · intro hbits i hi
    rw [hbits i hi]
    exact bitAt_update1_eq_fixedBit hlen hi fun j _ => hbits j

/-- The first family of R111 (b) is the candidate with first bit 1. -/
theorem eq_ones_append_zeros_iff {k : BitString} {half : Nat} (hlen : k.length = 2 * half) :
    k = List.replicate half true ++ List.replicate half false ↔ ∀ i < 2 * half, bitAt k i = fixedBit half true i := by
  have hbit : ∀ i < 2 * half,
      bitAt (List.replicate half true ++ List.replicate half false) i = fixedBit half true i := fun i hi => by
    by_cases hfirst : i < half
    · rw [bitAt_append_of_lt _ (by simpa using hfirst), bitAt_replicate _ hfirst, fixedBit, if_pos hfirst, Bool.true_or]
    · rw [bitAt_append_of_le _ (by simpa using hfirst), List.length_replicate, bitAt_replicate _ (by omega),
        fixedBit_of_le _ (by omega), Bool.not_true]
  rw [eq_iff_bitAt hlen (by rw [List.length_append, List.length_replicate, List.length_replicate]; omega)]
  exact forall₂_congr fun i hi => by rw [hbit i hi]

theorem length_flatten_replicate_zeroOne (n : Nat) : (List.replicate n [false, true]).flatten.length = 2 * n := by
  simp [Nat.mul_comm]

/-- In repetitions of "01" the odd positions are the 1s. -/
theorem bitAt_flatten_replicate_zeroOne {n i : Nat} (h : i < 2 * n) :
    bitAt (List.replicate n [false, true]).flatten i = decide (i % 2 = 1) := by
  induction n generalizing i with
  | zero => omega
  | succ n ih =>
    match i with
    | 0 => rfl
    | 1 => rfl
    | i + 2 =>
      rw [Nat.add_mod_right, ← ih (by omega)]
      rfl

/-- The second family of R111 (b), for an even half, is the candidate with first bit 0. -/
theorem eq_zeroOnes_append_ones_iff {k : BitString} {half : Nat} (hlen : k.length = 2 * half) (heven : half % 2 = 0) :
    k = (List.replicate (half / 2) [false, true]).flatten ++ List.replicate half true ↔
      ∀ i < 2 * half, bitAt k i = fixedBit half false i := by
  have hhalf : (List.replicate (half / 2) [false, true]).flatten.length = half := by
    rw [length_flatten_replicate_zeroOne]
    omega
  have hbit : ∀ i < 2 * half, bitAt ((List.replicate (half / 2) [false, true]).flatten ++ List.replicate half true) i
      = fixedBit half false i := fun i hi => by
    by_cases hfirst : i < half
    · have hparity : i % 2 = 1 ↔ (half - i) % 2 = 1 := by omega
      rw [bitAt_append_of_lt _ (by omega), bitAt_flatten_replicate_zeroOne (by omega), fixedBit, if_pos hfirst,
        Bool.false_or, decide_eq_decide.2 hparity]
    · rw [bitAt_append_of_le _ (by omega), hhalf, bitAt_replicate _ (by omega), fixedBit_of_le _ (by omega),
        Bool.not_false]
  rw [eq_iff_bitAt hlen (by rw [List.length_append, hhalf, List.length_replicate]; omega)]
  exact forall₂_congr fun i hi => by rw [hbit i hi]

/-- Settles O25: each family is the candidate of one first bit, and the candidate of first bit 0 starts with 0 only
when the half is even. -/
theorem updateOneFixedPoints : Obligations.UpdateOneFixedPoints := by
  intro k half hhalf hlen
  have hfirst : ∀ b, fixedBit half b 0 = (b || decide (half % 2 = 1)) := fun b => if_pos (by omega)
  rw [update1_eq_self_iff hlen, eq_ones_append_zeros_iff hlen]
  constructor
  · intro hbits
    cases hb : bitAt k 0 with
    | true => exact .inl (hb ▸ hbits)
    | false =>
      rw [hb] at hbits
      have heven : half % 2 = 0 := by
        have h0 := hbits 0 (by omega)
        rw [hb, hfirst] at h0
        simpa using h0
      exact .inr ⟨heven, (eq_zeroOnes_append_ones_iff hlen heven).2 hbits⟩
  · rintro (hbits | ⟨heven, hk⟩)
    · have hb : bitAt k 0 = true := by rw [hbits 0 (by omega), hfirst, Bool.true_or]
      exact hb ▸ hbits
    · have hbits := (eq_zeroOnes_append_ones_iff hlen heven).1 hk
      have hb : bitAt k 0 = false := by simp [hbits 0 (by omega), hfirst, heven]
      exact hb ▸ hbits

end Sys2Proof.Machine
end

section
/-! PROOFS. The key-register commands KUPD, KST, KLD, KFIN (`40_key_functions.md` R107 to R110): the words they have and
the state each leaves. -/

namespace Sys2Proof

/-- The word of a format R command: its slot in bits 31..16, its OP below (`30_encoding.md` R82). -/
theorem assemble_formatR {r : Nat} (h : r < 65536) (op : BitVec 8) :
    assemble (BitVec.ofNat 16 r) 0 0 op = BitVec.ofNat 32 (r * 65536 + op.toNat) := by
  have hlow : op.toNat < 2 ^ 16 := op.isLt.trans (by decide)
  apply BitVec.eq_of_toNat_eq
  simp only [assemble, BitVec.toNat_append, BitVec.ofNat_eq_ofNat, BitVec.toNat_ofNat, Nat.zero_mod,
    Nat.zero_shiftLeft, Nat.zero_or]
  rw [← Nat.shiftLeft_add_eq_or_of_lt hlow, Nat.shiftLeft_eq, Nat.mod_eq_of_lt h, Nat.mod_eq_of_lt (by omega)]

namespace Machine

/-! ### The outcomes of the four commands -/

theorem exec_kupd (s : State) : exec .kupd s = .next s.updateKeys.complete := rfl

theorem exec_kfin (s : State) : exec .kfin s = .next s.finalPair.complete := rfl

theorem exec_kst_of_lt {s : State} {r : Nat} (h : r < s.rmax) : exec (.kst r) s = .next (s.storePair r).complete :=
  s.withSlot_of_legal h _

theorem exec_kst_of_le {s : State} {r : Nat} (h : s.rmax ≤ r) : exec (.kst r) s = .next (s.raise .rounds) :=
  s.withSlot_of_illegal h.not_gt _

theorem exec_kld_of_lt {s : State} {r : Nat} (h : r < s.rmax) : exec (.kld r) s = .next (s.loadPair r).complete :=
  s.withSlot_of_legal h _

theorem exec_kld_of_le {s : State} {r : Nat} (h : s.rmax ≤ r) : exec (.kld r) s = .next (s.raise .rounds) :=
  s.withSlot_of_illegal h.not_gt _

/-- A slot that exists holds its list entry. -/
theorem State.pair_eq_getElem {s : State} {r : Nat} (h : r < s.rks.length) : s.pair r = s.rks[r] :=
  List.getD_eq_getElem _ _ h

/-- Settles O30: each register gets `update1` of its own bit-string. -/
theorem kupdUpdatesBothKeys : Obligations.KupdUpdatesBothKeys := by
  refine ⟨rfl, fun s => ⟨s.updateKeys.complete, exec_kupd s, ?_, ?_, ?_⟩⟩
  · rw [State.complete, State.updateKeys]
    rfl
  · rw [State.complete_k1, State.updateKeys_k1, Key.bits_update]
  · rw [State.complete_k2, State.updateKeys_k2, Key.bits_update]

/-- Settles O31: the slot test, then one slot replaced. -/
theorem kstRecordsThePair : Obligations.KstRecordsThePair := by
  refine ⟨fun r hr => ?_, fun s r => ⟨exec_kst_of_le, fun h => ⟨_, exec_kst_of_lt h, rfl, s.storePair_rmax r,
    s.pair_setPair_self h _, fun q hq => s.pair_setPair_of_ne hq _⟩⟩⟩
  have hword : encode (.kst r) = BitVec.ofNat 32 (r * 65536 + 0x23) := assemble_formatR hr 0x23
  exact hword ▸ decodeOfEncode (.kst r) (decide_eq_true hr)

/-- Settles O32: the slot test, then the slot's pair in K1 and K2. -/
theorem kldLoadsThePair : Obligations.KldLoadsThePair := by
  refine ⟨fun r hr => ?_, fun s r => ⟨exec_kld_of_le, fun h => ?_⟩⟩
  · have hword : encode (.kld r) = BitVec.ofNat 32 (r * 65536 + 0x24) := assemble_formatR hr 0x24
    exact hword ▸ decodeOfEncode (.kld r) (decide_eq_true hr)
  · rw [exec_kld_of_lt h, State.loadPair, State.pair_eq_getElem h]
    rfl

/-- Settles O33: the outcome of `exec_kfin`, field by field. -/
theorem kfinCopiesTheFinalPair : Obligations.KfinCopiesTheFinalPair := ⟨rfl, exec_kfin⟩

end Machine

end Sys2Proof
end

section
/-! PROOFS. The pixel_permutation_engine (`41_pixel_permutation.md` R120 to R125): each pass rearranges the pixels of
the active window by a permutation of its positions, a pass in the other direction by the inverse one, and SCR and USCR
are rounds of passes. -/

namespace Sys2Proof

/-- An amount taken in the other direction is its negative. -/
theorem Dir.signed_opposite (dir : Dir) (amount : Nat) : dir.opposite.signed amount = -dir.signed amount := by
  cases dir
  · rfl
  · exact (neg_neg _).symm

namespace Machine

/-! ### The shifts -/

theorem rowShift_le (k : BitString) (i : Nat) {n : Nat} (hn : 1 ≤ n) : rowShift k i n ≤ min 15 (n - 1) := by
  have hwin : win4 k (4 * i % k.length) % n ≤ 15 := (Nat.mod_le _ _).trans (win4_le k _)
  have hlt : win4 k (4 * i % k.length) % n < n := Nat.mod_lt _ hn
  rw [rowShift]
  omega

/-- The window offset wraps around after |k|/4 rows. -/
theorem rowShift_add_quarter {k : BitString} (h : k.length % 4 = 0) (i n : Nat) :
    rowShift k (i + k.length / 4) n = rowShift k i n := by
  have hoffset : 4 * (i + k.length / 4) = 4 * i + k.length := by omega
  rw [rowShift, rowShift, hoffset, Nat.add_mod_right]

/-- A column shift is the row shift of the same numbers (`41_pixel_permutation.md` R120). -/
theorem colShift_eq_rowShift : colShift = rowShift := rfl

/-- Settles O27: the facts about the row shift, which is the column shift too. -/
theorem shiftsAreSmallAndRepeat : Obligations.ShiftsAreSmallAndRepeat := by
  intro k i n _ hn
  rw [colShift_eq_rowShift]
  exact ⟨rfl, rfl, rowShift_le k i hn, rowShift_le k i hn,
    fun h => ⟨rowShift_add_quarter h i n, rowShift_add_quarter h i n⟩⟩

/-! ### The floored modulus -/

theorem wrap_natCast (a n : Nat) : wrap a n = a % n := by
  rw [wrap, ← Int.natCast_mod, Int.toNat_natCast]

theorem natCast_wrap (a : Int) {n : Nat} (hn : 0 < n) : (wrap a n : Int) = a % n :=
  Int.toNat_of_nonneg (Int.emod_nonneg a (Int.natCast_pos.2 hn).ne')

theorem wrap_wrap_add (a b : Int) {n : Nat} (hn : 0 < n) : wrap (wrap a n + b) n = wrap (a + b) n := by
  rw [wrap, natCast_wrap a hn, Int.emod_add_emod, wrap]

/-- A shift followed by the opposite one. -/
theorem wrap_wrap_cancel {a b : Int} {n : Nat} (x : Fin n) (h : a + b = x) : wrap (wrap a n + b) n = x := by
  rw [wrap_wrap_add a b x.pos, h, wrap_natCast, Nat.mod_eq_of_lt x.isLt]

/-! ### The permutation of the window's positions that a pass makes -/

/-- `n` positions in a circle: position `x` is filled from the position `amount` before it. -/
def turn (n : Nat) (amount : Int) : Equiv.Perm (Fin n) where
  toFun x := ⟨wrap (x - amount) n, wrap_lt _ x.pos⟩
  invFun x := ⟨wrap (x + amount) n, wrap_lt _ x.pos⟩
  left_inv x := Fin.ext (wrap_wrap_cancel x (by ring))
  right_inv x := Fin.ext (wrap_wrap_cancel x (by ring))

theorem turn_neg (n : Nat) (amount : Int) : turn n (-amount) = (turn n amount).symm :=
  Equiv.ext fun _ => Fin.ext (congrArg (wrap · n) (sub_neg_eq_add _ _))

/-- Where the row pass takes the pixel of each position from (`41_pixel_permutation.md` R121). -/
def rowPlace (k : Key) (h w : Nat) (dir : Dir) : Equiv.Perm (Fin h × Fin w) :=
  Equiv.prodCongrRight fun y => turn w (dir.signed (rowShift k.bits y w))

/-- Where the column pass takes the pixel of each position from (`41_pixel_permutation.md` R122). -/
def colPlace (k : Key) (h w : Nat) (dir : Dir) : Equiv.Perm (Fin h × Fin w) :=
  Equiv.prodCongrLeft fun x => turn h (dir.signed (colShift k.bits x h))

theorem rowPlace_opposite (k : Key) (h w : Nat) (dir : Dir) :
    rowPlace k h w dir.opposite = (rowPlace k h w dir).symm := by
  simp only [rowPlace, Dir.signed_opposite, turn_neg]
  rfl

theorem colPlace_opposite (k : Key) (h w : Nat) (dir : Dir) :
    colPlace k h w dir.opposite = (colPlace k h w dir).symm := by
  simp only [colPlace, Dir.signed_opposite, turn_neg]
  rfl

/-! ### Memories that differ by a rearrangement of the window's pixels -/

/-- `n` is `m` with position `q` of the `h` by `w` window of IMG filled from position `place q`, in all three channels,
and every other cell as it was. -/
structure Memory.Rearranged {h w : Nat} (place : Equiv.Perm (Fin h × Fin w)) (m n : Memory) : Prop where
  window : ∀ c < 3, ∀ q, n.read (imgAddr c q.1 q.2) = m.read (imgAddr c (place q).1 (place q).2)
  outside : ∀ a, (¬ ∃ c y x, c < 3 ∧ y < h ∧ x < w ∧ a = imgAddr c y x) → n.read a = m.read a

namespace Memory.Rearranged

variable {h w : Nat} {place place' : Equiv.Perm (Fin h × Fin w)} {m n k : Memory}

theorem refl (m : Memory) : Rearranged (1 : Equiv.Perm (Fin h × Fin w)) m m := ⟨fun _ _ _ => rfl, fun _ _ => rfl⟩

theorem trans (hmn : Rearranged place m n) (hnk : Rearranged place' n k) : Rearranged (place'.trans place) m k where
  window c hc q := (hnk.window c hc q).trans (hmn.window c hc (place' q))
  outside a ha := (hnk.outside a ha).trans (hmn.outside a ha)

/-- The pixel at a position goes to the position filled from it. -/
theorem read_target (hmn : Rearranged place m n) {c : Nat} (hc : c < 3) (q : Fin h × Fin w) :
    n.read (imgAddr c (place.symm q).1 (place.symm q).2) = m.read (imgAddr c q.1 q.2) := by
  rw [hmn.window c hc, Equiv.apply_symm_apply]

/-- A rearrangement followed by its inverse changes nothing. -/
theorem eq_of_symm (hmn : Rearranged place m n) (hnk : Rearranged place.symm n k) (hm : m.wf = true)
    (hk : k.wf = true) : k = m := by
  refine Memory.ext_of_wf hk hm fun a => ?_
  by_cases ha : ∃ c y x, c < 3 ∧ y < h ∧ x < w ∧ a = imgAddr c y x
  · obtain ⟨c, y, x, hc, hy, hx, rfl⟩ := ha
    exact (hnk.window c hc (⟨y, hy⟩, ⟨x, hx⟩)).trans (hmn.read_target hc _)
  · exact (hmn.trans hnk).outside a ha

end Memory.Rearranged

/-! ### The passes rearrange the window -/

/-- The state has an `h` by `w` active window with cells of their own, in canonical memory. -/
structure State.HasWindow (h w : Nat) (s : State) : Prop where
  height : s.height = h
  width : s.width = w
  memWf : s.mem.wf = true
  heightLe : h ≤ 4096
  widthLe : w ≤ 4096

theorem State.Inv.hasWindow {s : State} (h : s.Inv) (hd : s.DimsLegal) : s.HasWindow s.height s.width := by
  obtain ⟨hwf, hh, hw⟩ := (State.DataReach.refl h.storage).window hd
  exact ⟨rfl, rfl, hwf, hh, hw⟩

namespace State.HasWindow

variable {h w : Nat} {s t : State}

/-- An operation that leaves the image size and memory alone. -/
theorem congr (hs : s.HasWindow h w) (hheight : t.height = s.height) (hwidth : t.width = s.width)
    (hmem : t.mem = s.mem) : t.HasWindow h w :=
  ⟨hheight.trans hs.height, hwidth.trans hs.width, hmem ▸ hs.memWf, hs.heightLe, hs.widthLe⟩

theorem setImgWindow (hs : s.HasWindow h w) (f : Nat → Nat → Nat → Byte) : (s.setImgWindow f).HasWindow h w :=
  ⟨hs.height, hs.width, State.wf_setImgWindow hs.memWf f, hs.heightLe, hs.widthLe⟩

theorem rowPass (hs : s.HasWindow h w) (dir : Dir) : (s.rowPass dir).HasWindow h w := hs.setImgWindow _

theorem colPass (hs : s.HasWindow h w) (dir : Dir) : (s.colPass dir).HasWindow h w := hs.setImgWindow _

theorem complete (hs : s.HasWindow h w) : s.complete.HasWindow h w := hs.congr rfl rfl rfl

theorem storePair (hs : s.HasWindow h w) (r : Nat) : (s.storePair r).HasWindow h w := hs.congr rfl rfl rfl

theorem loadPair (hs : s.HasWindow h w) (r : Nat) : (s.loadPair r).HasWindow h w := hs.congr rfl rfl rfl

theorem updateKeys (hs : s.HasWindow h w) : s.updateKeys.HasWindow h w :=
  hs.congr s.updateKeys_height s.updateKeys_width s.updateKeys_mem

theorem finalPair (hs : s.HasWindow h w) : s.finalPair.HasWindow h w := hs.congr rfl rfl rfl

/-- Replacing the window by the samples at other positions of it. -/
theorem setImgWindow_rearranged (hs : s.HasWindow h w) {place : Equiv.Perm (Fin h × Fin w)}
    {f : Nat → Nat → Nat → Byte} (hf : ∀ c (q : Fin h × Fin w), f c q.1 q.2 = s.img c (place q).1 (place q).2) :
    Memory.Rearranged place s.mem (s.setImgWindow f).mem := by
  obtain ⟨rfl, rfl, hwf, hh, hw⟩ := hs
  refine ⟨fun c hc q => ?_, fun a ha => s.setImgWindow_read_of_not_mem f fun c y x hc hy hx heq => ?_⟩
  · exact (State.setImgWindow_img hwf hh hw f hc q.1.isLt q.2.isLt).trans (hf c q)
  · exact ha ⟨c, y, x, hc, hy, hx, heq⟩

theorem rowPass_rearranged (hs : s.HasWindow h w) (dir : Dir) :
    Memory.Rearranged (rowPlace s.k1 h w dir) s.mem (s.rowPass dir).mem :=
  hs.setImgWindow_rearranged fun _ _ => by
    rw [hs.width]
    rfl

theorem colPass_rearranged (hs : s.HasWindow h w) (dir : Dir) :
    Memory.Rearranged (colPlace s.k2 h w dir) s.mem (s.colPass dir).mem :=
  hs.setImgWindow_rearranged fun _ _ => by
    rw [hs.height]
    rfl

/-! A pass undone by the pass in the other direction with the same key (`41_pixel_permutation.md` R125 (a), (b)). -/

theorem rowPass_undone (hs : s.HasWindow h w) (ht : t.HasWindow h w) {dir : Dir}
    (hmem : t.mem = (s.rowPass dir).mem) (hkey : t.k1 = s.k1) : (t.rowPass dir.opposite).mem = s.mem := by
  have hback := ht.rowPass_rearranged dir.opposite
  rw [hkey, rowPlace_opposite, hmem] at hback
  exact (hs.rowPass_rearranged dir).eq_of_symm hback hs.memWf (ht.rowPass _).memWf

theorem colPass_undone (hs : s.HasWindow h w) (ht : t.HasWindow h w) {dir : Dir}
    (hmem : t.mem = (s.colPass dir).mem) (hkey : t.k2 = s.k2) : (t.colPass dir.opposite).mem = s.mem := by
  have hback := ht.colPass_rearranged dir.opposite
  rw [hkey, colPlace_opposite, hmem] at hback
  exact (hs.colPass_rearranged dir).eq_of_symm hback hs.memWf (ht.colPass _).memWf

end State.HasWindow

/-! ### The outcomes of ROWP and COLP -/

theorem exec_rowp_of_legal {s : State} (hd : s.DimsLegal) (dir : Dir) :
    exec (.rowp dir) s = .next (s.rowPass dir).complete := s.withDims_of_legal hd _

theorem exec_rowp_of_illegal {s : State} (hd : ¬ s.DimsLegal) (dir : Dir) :
    exec (.rowp dir) s = .next (s.raise .dim) := s.withDims_of_illegal hd _

theorem exec_colp_of_legal {s : State} (hd : s.DimsLegal) (dir : Dir) :
    exec (.colp dir) s = .next (s.colPass dir).complete := s.withDims_of_legal hd _

theorem exec_colp_of_illegal {s : State} (hd : ¬ s.DimsLegal) (dir : Dir) :
    exec (.colp dir) s = .next (s.raise .dim) := s.withDims_of_illegal hd _

/-- Settles O34: the row pass read at the position each sample goes to. -/
theorem rowpShiftsRows : Obligations.RowpShiftsRows := by
  refine ⟨rfl, rfl, fun s dir hinv => ⟨fun hd => exec_rowp_of_illegal hd dir, fun hd => ?_⟩⟩
  have hpass := (hinv.hasWindow hd).rowPass_rearranged dir
  refine ⟨_, exec_rowp_of_legal hd dir, rfl, fun c i x hc hi hx => ?_, hpass.outside⟩
  have hmove := hpass.read_target hc (⟨i, hi⟩, ⟨x, hx⟩)
  refine ⟨?_, ?_⟩ <;> rintro rfl
  · rw [← wrap_natCast, Nat.cast_add]
    exact hmove
  · exact hmove

/-- Settles O35: the column pass read at the position each sample goes to. -/
theorem colpShiftsColumns : Obligations.ColpShiftsColumns := by
  refine ⟨rfl, rfl, fun s dir hinv => ⟨fun hd => exec_colp_of_illegal hd dir, fun hd => ?_⟩⟩
  have hpass := (hinv.hasWindow hd).colPass_rearranged dir
  refine ⟨_, exec_colp_of_legal hd dir, rfl, fun c j y hc hj hy => ?_, hpass.outside⟩
  have hmove := hpass.read_target hc (⟨y, hy⟩, ⟨j, hj⟩)
  refine ⟨?_, ?_⟩ <;> rintro rfl
  · rw [← wrap_natCast, Nat.cast_add]
    exact hmove
  · exact hmove

/-- Settles O38: the second pass finds the memory the first one left, and the same key. -/
theorem passesInvert : Obligations.PassesInvert := by
  intro s dir hinv hd
  have hs := hinv.hasWindow hd
  exact ⟨⟨_, _, exec_rowp_of_legal hd dir, exec_rowp_of_legal (s := (s.rowPass dir).complete) hd dir.opposite,
      hs.rowPass_undone (hs.rowPass dir).complete rfl rfl⟩,
    ⟨_, _, exec_colp_of_legal hd dir, exec_colp_of_legal (s := (s.colPass dir).complete) hd dir.opposite,
      hs.colPass_undone (hs.colPass dir).complete rfl rfl⟩⟩

/-! ### Commands in a row -/

theorem runCommands_cons_of_next {i : Instr} {s t : State} (h : exec i s = .next t) (rest : List Instr) :
    runCommands (i :: rest) s = runCommands rest t := by
  rw [runCommands, h]

theorem runCommands_append_of_next {first rest : List Instr} {s t : State} (h : runCommands first s = .next t) :
    runCommands (first ++ rest) s = runCommands rest t := by
  induction first generalizing s with
  | nil => exact congrArg (runCommands rest) (Host.Outcome.next.inj h)
  | cons i first ih =>
    rw [runCommands] at h
    cases hi : exec i s with
    | next u =>
      rw [hi] at h
      rw [List.cons_append, runCommands_cons_of_next hi, ih h]
    | fault r => nomatch r
    | refused r =>
      rw [hi] at h
      nomatch h

/-! No data operation reads STATUS, so a command may complete before or after the data operation of the next one. -/

theorem State.complete_complete (s : State) : s.complete.complete = s.complete := rfl

theorem State.rowPass_complete (s : State) (dir : Dir) : s.complete.rowPass dir = (s.rowPass dir).complete := rfl

theorem State.colPass_complete (s : State) (dir : Dir) : s.complete.colPass dir = (s.colPass dir).complete := rfl

theorem State.updateKeys_complete (s : State) : s.complete.updateKeys = s.updateKeys.complete := by
  simp only [State.updateKeys, State.complete]

theorem State.storePair_complete (s : State) (r : Nat) : s.complete.storePair r = (s.storePair r).complete := rfl

theorem State.loadPair_complete (s : State) (r : Nat) : s.complete.loadPair r = (s.loadPair r).complete := rfl

theorem State.finalPair_complete (s : State) : s.complete.finalPair = s.finalPair.complete := rfl

theorem State.scrambleRound_complete (s : State) (r : Nat) :
    s.complete.scrambleRound r = (s.scrambleRound r).complete := by
  simp only [State.scrambleRound, State.storePair_complete, State.rowPass_complete, State.colPass_complete,
    State.updateKeys_complete]

theorem State.unscrambleRound_complete (s : State) (r : Nat) :
    s.complete.unscrambleRound r = (s.unscrambleRound r).complete := by
  simp only [State.unscrambleRound, State.loadPair_complete, State.colPass_complete, State.rowPass_complete]

/-! ### The commands of a round -/

/-- A round on slot `r` passes its checks (`60_exceptions.md` R194, R196). -/
structure State.RoundReady (r : Nat) (s : State) : Prop where
  dims : s.DimsLegal
  slot : s.SlotLegal r

/-- The checks read the image size, its bounds and the number of slots only. -/
theorem State.RoundReady.congr {r : Nat} {s t : State} (h : s.RoundReady r) (hheight : t.height = s.height)
    (hwidth : t.width = s.width) (hparams : t.params = s.params) (hrmax : t.rmax = s.rmax) : t.RoundReady r where
  dims := by
    rw [State.DimsLegal, hheight, hwidth, hparams]
    exact h.dims
  slot := h.slot.trans_eq hrmax.symm

/-- Commands that carry out one round each carry out the rounds, when each round leaves the next one ready. -/
theorem runCommands_rounds {commands : Nat → List Instr} {round : State → Nat → State}
    (hrun : ∀ {r u}, State.RoundReady r u → runCommands (commands r) u = .next (round u r).complete)
    (hcomplete : ∀ u r, round u.complete r = (round u r).complete)
    (hkeep : ∀ {u r q}, State.RoundReady q u → State.RoundReady q (round u r))
    {rs : List Nat} (hne : rs ≠ []) {u : State} (hready : ∀ r ∈ rs, u.RoundReady r) :
    runCommands (rs.flatMap commands) u = .next (rs.foldl round u).complete := by
  induction rs generalizing u with
  | nil => exact absurd rfl hne
  | cons r rs ih =>
    obtain ⟨hr, hrs⟩ := List.forall_mem_cons.1 hready
    rw [List.flatMap_cons, runCommands_append_of_next (hrun hr)]
    by_cases hnil : rs = []
    · subst hnil
      rfl
    · have hnext : ∀ q ∈ rs, (round u r).complete.RoundReady q := fun q hq =>
        (hkeep (hrs q hq)).congr rfl rfl rfl rfl
      rw [ih hnil hnext, List.foldl_hom State.complete hcomplete, State.complete_complete, List.foldl_cons]

theorem State.RoundReady.scrambleRound {s : State} {r q : Nat} (h : s.RoundReady q) :
    (s.scrambleRound r).RoundReady q := by
  apply h.congr <;> simp [State.scrambleRound]

theorem State.RoundReady.unscrambleRound {s : State} {r q : Nat} (h : s.RoundReady q) :
    (s.unscrambleRound r).RoundReady q :=
  h.congr rfl rfl rfl rfl

theorem runCommands_scrambleRoundCommands {r : Nat} {s : State} (h : s.RoundReady r) :
    runCommands (scrambleRoundCommands r) s = .next (s.scrambleRound r).complete := by
  have hrow : (s.storePair r).complete.DimsLegal := h.dims
  have hcol : ((s.storePair r).complete.rowPass .fwd).complete.DimsLegal := h.dims
  rw [scrambleRoundCommands, runCommands_cons_of_next (exec_kst_of_lt h.slot),
    runCommands_cons_of_next (exec_rowp_of_legal hrow .fwd), runCommands_cons_of_next (exec_colp_of_legal hcol .fwd),
    runCommands_cons_of_next (exec_kupd _), runCommands]
  simp only [State.scrambleRound, State.rowPass_complete, State.colPass_complete, State.updateKeys_complete,
    State.complete_complete]

theorem runCommands_unscrambleRoundCommands {r : Nat} {s : State} (h : s.RoundReady r) :
    runCommands (unscrambleRoundCommands r) s = .next (s.unscrambleRound r).complete := by
  have hcol : (s.loadPair r).complete.DimsLegal := h.dims
  have hrow : ((s.loadPair r).complete.colPass .inv).complete.DimsLegal := h.dims
  rw [unscrambleRoundCommands, runCommands_cons_of_next (exec_kld_of_lt h.slot),
    runCommands_cons_of_next (exec_colp_of_legal hcol .inv), runCommands_cons_of_next (exec_rowp_of_legal hrow .inv),
    runCommands]
  simp only [State.unscrambleRound, State.rowPass_complete, State.colPass_complete, State.complete_complete]

theorem State.RoundsLegal.ready {s : State} (hd : s.DimsLegal) (hr : s.RoundsLegal) :
    ∀ r < s.roundCount, s.RoundReady r := fun _ hlt => ⟨hd, hlt.trans_le hr.2⟩

/-- SCR by hand (`41_pixel_permutation.md` R123). -/
theorem runCommands_scrambleCommands {s : State} (hd : s.DimsLegal) (hr : s.RoundsLegal) :
    runCommands (scrambleCommands s.roundCount) s = .next s.scramble.complete := by
  have hne : List.range s.roundCount ≠ [] := List.range_eq_nil.not.2 (Nat.one_le_iff_ne_zero.1 hr.1)
  have hrounds := runCommands_rounds runCommands_scrambleRoundCommands State.scrambleRound_complete
    State.RoundReady.scrambleRound hne fun r hmem => hr.ready hd r (List.mem_range.1 hmem)
  rw [scrambleCommands, runCommands_append_of_next hrounds, runCommands_cons_of_next (exec_kfin _),
    State.finalPair_complete, State.complete_complete]
  rfl

/-- USCR by hand (`41_pixel_permutation.md` R124). -/
theorem runCommands_unscrambleCommands {s : State} (hd : s.DimsLegal) (hr : s.RoundsLegal) :
    runCommands (unscrambleCommands s.roundCount) s = .next s.unscramble.complete := by
  have hne : (List.range s.roundCount).reverse ≠ [] :=
    List.reverse_eq_nil_iff.not.2 (List.range_eq_nil.not.2 (Nat.one_le_iff_ne_zero.1 hr.1))
  exact runCommands_rounds runCommands_unscrambleRoundCommands State.unscrambleRound_complete
    State.RoundReady.unscrambleRound hne fun r hmem => hr.ready hd r (List.mem_range.1 (List.mem_reverse.1 hmem))

/-! ### The outcomes of SCR and USCR -/

theorem exec_scr_of_legal {s : State} (hd : s.DimsLegal) (hr : s.RoundsLegal) :
    exec .scr s = .next s.scramble.complete := (s.withDims_of_legal hd _).trans (s.withRounds_of_legal hr _)

theorem exec_scr_of_dims_illegal {s : State} (hd : ¬ s.DimsLegal) : exec .scr s = .next (s.raise .dim) :=
  s.withDims_of_illegal hd _

theorem exec_scr_of_rounds_illegal {s : State} (hd : s.DimsLegal) (hr : ¬ s.RoundsLegal) :
    exec .scr s = .next (s.raise .rounds) := (s.withDims_of_legal hd _).trans (s.withRounds_of_illegal hr _)

theorem exec_uscr_of_legal {s : State} (hd : s.DimsLegal) (hr : s.RoundsLegal) :
    exec .uscr s = .next s.unscramble.complete := (s.withDims_of_legal hd _).trans (s.withRounds_of_legal hr _)

theorem exec_uscr_of_dims_illegal {s : State} (hd : ¬ s.DimsLegal) : exec .uscr s = .next (s.raise .dim) :=
  s.withDims_of_illegal hd _

theorem exec_uscr_of_rounds_illegal {s : State} (hd : s.DimsLegal) (hr : ¬ s.RoundsLegal) :
    exec .uscr s = .next (s.raise .rounds) := (s.withDims_of_legal hd _).trans (s.withRounds_of_illegal hr _)

/-! ### The rounds of SCR, one by one -/

/-- The first `n` rounds of SCR. -/
def State.scrambleRounds (s : State) (n : Nat) : State := (List.range n).foldl State.scrambleRound s

theorem State.scrambleRounds_succ (s : State) (n : Nat) :
    s.scrambleRounds (n + 1) = (s.scrambleRounds n).scrambleRound n := by
  rw [State.scrambleRounds, List.range_succ, List.foldl_append]
  rfl

theorem State.scramble_eq (s : State) : s.scramble = (s.scrambleRounds s.roundCount).finalPair := rfl

@[simp] theorem State.scrambleRounds_status (s : State) (n : Nat) : (s.scrambleRounds n).status = s.status := by
  induction n with
  | zero => rfl
  | succ n ih => simp [State.scrambleRounds_succ, State.scrambleRound, ih]

@[simp] theorem State.scrambleRounds_rmax (s : State) (n : Nat) : (s.scrambleRounds n).rmax = s.rmax := by
  induction n with
  | zero => rfl
  | succ n ih => simp [State.scrambleRounds_succ, State.scrambleRound, ih]

/-- K1 after `n` rounds, each of which ends with KUPD. -/
theorem State.scrambleRounds_k1 (s : State) (n : Nat) : (s.scrambleRounds n).k1 = Key.update^[n] s.k1 := by
  induction n with
  | zero => rfl
  | succ n ih => simp [State.scrambleRounds_succ, State.scrambleRound, ih, Function.iterate_succ_apply']

theorem State.scrambleRounds_k2 (s : State) (n : Nat) : (s.scrambleRounds n).k2 = Key.update^[n] s.k2 := by
  induction n with
  | zero => rfl
  | succ n ih => simp [State.scrambleRounds_succ, State.scrambleRound, ih, Function.iterate_succ_apply']

theorem State.scrambleRound_pair (s : State) (r q : Nat) :
    (s.scrambleRound r).pair q = (s.storePair r).pair q := by
  simp [State.scrambleRound]

/-- The slot of each round that has run holds the key pair the round began with. -/
theorem State.scrambleRounds_pair {s : State} {n r : Nat} (hr : r < n) (hn : n ≤ s.rmax) :
    (s.scrambleRounds n).pair r = { k1 := Key.update^[r] s.k1, k2 := Key.update^[r] s.k2 } := by
  induction n with
  | zero => exact absurd hr r.not_lt_zero
  | succ n ih =>
    rw [State.scrambleRounds_succ, State.scrambleRound_pair, State.storePair]
    obtain hlt | rfl := Nat.lt_succ_iff_lt_or_eq.1 hr
    · rw [State.pair_setPair_of_ne _ hlt.ne, ih hlt (by omega)]
    · rw [State.pair_setPair_self _ (by rwa [State.scrambleRounds_rmax]), State.scrambleRounds_k1,
        State.scrambleRounds_k2]

/-- A state that keeps to a write set, by what it may differ in. -/
theorem State.AltersOnly.eq_with {ws : WriteSet} {s t : State} (h : s.AltersOnly ws t) :
    t = { s with mem := t.mem, k1 := t.k1, k2 := t.k2, fk1 := t.fk1, fk2 := t.fk2, rks := t.rks,
                 status := t.status } := by
  obtain ⟨_, _, rfl⟩ := h.rest
  rfl

/-- Settles O36: SCR by hand, the key registers round by round, and the column of SCR for what it leaves. -/
theorem scrIsItsRounds : Obligations.ScrIsItsRounds := by
  refine ⟨rfl, fun s => ⟨exec_scr_of_dims_illegal, exec_scr_of_rounds_illegal, fun hd hr => ?_⟩⟩
  have hexec := exec_scr_of_legal hd hr
  have halters := altersOnly_of_exec hexec
  refine ⟨hexec.trans (runCommands_scrambleCommands hd hr).symm, _, hexec, ?_, halters.rmax, fun r hlt => ?_,
    fun r hle => halters.slot r hle.not_gt, s.scrambleRounds_k1 _, s.scrambleRounds_k2 _, halters.cell⟩
  · have hstatus : s.scramble.complete.status = s.status.complete :=
      congrArg Status.complete (s.scrambleRounds_status _)
    have hrest := halters.eq_with
    rw [hstatus] at hrest
    exact hrest
  · exact State.scrambleRounds_pair hlt hr.2

/-! ### The rounds of USCR, one by one -/

/-- The last `n` rounds of USCR, in falling order. -/
def State.unscrambleRounds (s : State) (n : Nat) : State := (List.range n).reverse.foldl State.unscrambleRound s

theorem State.unscrambleRounds_succ (s : State) (n : Nat) :
    s.unscrambleRounds (n + 1) = (s.unscrambleRound n).unscrambleRounds n := by
  rw [State.unscrambleRounds, List.range_succ, List.reverse_append]
  rfl

theorem State.unscramble_eq (s : State) : s.unscramble = s.unscrambleRounds s.roundCount := rfl

/-- Rounds of USCR write memory, K1 and K2, and end with the pair of slot 0 loaded. -/
theorem State.unscrambleRounds_succ_eq (s : State) (n : Nat) : s.unscrambleRounds (n + 1) =
    { s with mem := (s.unscrambleRounds (n + 1)).mem, k1 := (s.pair 0).k1, k2 := (s.pair 0).k2 } := by
  induction n generalizing s with
  | zero => rfl
  | succ n ih =>
    rw [State.unscrambleRounds_succ, ih]
    rfl

/-- What USCR leaves, when it has a round: K1 and K2 are the pair loaded last. -/
theorem State.unscramble_eq_with {s : State} (h : 1 ≤ s.roundCount) :
    s.unscramble = { s with mem := s.unscramble.mem, k1 := (s.pair 0).k1, k2 := (s.pair 0).k2 } := by
  obtain ⟨n, hn⟩ := Nat.exists_eq_add_of_le' h
  rw [State.unscramble_eq, hn]
  exact s.unscrambleRounds_succ_eq n

/-- Settles O37: USCR by hand, its last round on slot 0, and the column of USCR for the cells it leaves. -/
theorem uscrIsItsRounds : Obligations.UscrIsItsRounds := by
  refine ⟨rfl, fun s => ⟨exec_uscr_of_dims_illegal, exec_uscr_of_rounds_illegal, fun hd hr => ?_⟩⟩
  have hexec := exec_uscr_of_legal hd hr
  exact ⟨hexec.trans (runCommands_unscrambleCommands hd hr).symm, _, hexec,
    congrArg State.complete (State.unscramble_eq_with hr.1), (altersOnly_of_exec hexec).cell⟩

/-! ### USCR after SCR (`41_pixel_permutation.md` R125 (c)) -/

namespace State.HasWindow

variable {h w : Nat} {s t : State}

theorem scrambleRound (hs : s.HasWindow h w) (r : Nat) : (s.scrambleRound r).HasWindow h w :=
  (((hs.storePair r).rowPass .fwd).colPass .fwd).updateKeys

theorem unscrambleRound (hs : s.HasWindow h w) (r : Nat) : (s.unscrambleRound r).HasWindow h w :=
  ((hs.loadPair r).colPass .inv).rowPass .inv

theorem scrambleRounds (hs : s.HasWindow h w) (n : Nat) : (s.scrambleRounds n).HasWindow h w :=
  List.foldlRecOn _ _ hs fun _ hv r _ => hv.scrambleRound r

/-- A round of USCR undoes the round of SCR that left the memory, with the key pair that round began with. -/
theorem scrambleRound_undone (hs : s.HasWindow h w) (ht : t.HasWindow h w) {r : Nat}
    (hmem : t.mem = (s.scrambleRound r).mem) (hpair : t.pair r = { k1 := s.k1, k2 := s.k2 }) :
    (t.unscrambleRound r).mem = s.mem := by
  have hload := ht.loadPair r
  have hrow := (hs.storePair r).rowPass .fwd
  have hcolBack : ((t.loadPair r).colPass .inv).mem = ((s.storePair r).rowPass .fwd).mem :=
    hrow.colPass_undone hload (dir := .fwd) (hmem.trans (State.updateKeys_mem _)) (congrArg KeyPair.k2 hpair)
  exact (hs.storePair r).rowPass_undone (hload.colPass .inv) (dir := .fwd) hcolBack (congrArg KeyPair.k1 hpair)

/-- Rounds of USCR undo as many rounds of SCR, the last one first. -/
theorem scrambleRounds_undone (hs : s.HasWindow h w) (ht : t.HasWindow h w) {n : Nat}
    (hmem : t.mem = (s.scrambleRounds n).mem)
    (hpair : ∀ r < n, t.pair r = { k1 := (s.scrambleRounds r).k1, k2 := (s.scrambleRounds r).k2 }) :
    (t.unscrambleRounds n).mem = s.mem := by
  induction n generalizing t with
  | zero => exact hmem
  | succ n ih =>
    rw [State.scrambleRounds_succ] at hmem
    have hround := (hs.scrambleRounds n).scrambleRound_undone ht hmem (hpair n n.lt_succ_self)
    rw [State.unscrambleRounds_succ]
    exact ih (ht.unscrambleRound n) hround fun r hr => hpair r (hr.trans n.lt_succ_self)

end State.HasWindow

/-- Settles O39: the rounds of USCR find the key pairs SCR stored, and undo its rounds from the last to the first. -/
theorem uscrInvertsScr : Obligations.UscrInvertsScr := by
  intro s hinv hd hr
  have hscr := exec_scr_of_legal hd hr
  have halters := altersOnly_of_exec hscr
  have hd' : s.scramble.complete.DimsLegal := ((State.DataReach.refl hinv.storage).scramble hd).dims hd
  have hr' : s.scramble.complete.RoundsLegal := by
    rw [State.RoundsLegal, halters.roundCount, halters.rmax]
    exact hr
  have hpair : ∀ r < s.roundCount,
      s.scramble.complete.pair r = { k1 := (s.scrambleRounds r).k1, k2 := (s.scrambleRounds r).k2 } := fun r hlt => by
    rw [s.scrambleRounds_k1, s.scrambleRounds_k2]
    exact State.scrambleRounds_pair hlt hr.2
  have hmem : s.scramble.complete.unscramble.mem = s.mem := by
    have hs := hinv.hasWindow hd
    rw [State.unscramble_eq, halters.roundCount]
    exact hs.scrambleRounds_undone (hs.scrambleRounds _).finalPair.complete rfl hpair
  refine ⟨_, _, hscr, exec_uscr_of_legal hd' hr', hmem, ?_⟩
  rw [State.unscramble_eq_with hr'.1, hpair 0 hr.1]
  exact ⟨rfl, rfl⟩

/-! ### The rounds permute positions (`41_pixel_permutation.md` R125 (e)) -/

/-- `n` is `m` with the pixels of the window at other positions of it. -/
def Memory.Permuted (h w : Nat) (m n : Memory) : Prop :=
  ∃ place : Equiv.Perm (Fin h × Fin w), Memory.Rearranged place m n

theorem Memory.Permuted.trans {h w : Nat} {m n k : Memory} (hmn : Memory.Permuted h w m n)
    (hnk : Memory.Permuted h w n k) : Memory.Permuted h w m k := by
  obtain ⟨_, hmn⟩ := hmn
  obtain ⟨_, hnk⟩ := hnk
  exact ⟨_, hmn.trans hnk⟩

namespace State.HasWindow

variable {h w : Nat} {s : State}

theorem scrambleRound_permuted (hs : s.HasWindow h w) (r : Nat) :
    Memory.Permuted h w s.mem (s.scrambleRound r).mem := by
  have hrow := (hs.storePair r).rowPass_rearranged .fwd
  have hcol := ((hs.storePair r).rowPass .fwd).colPass_rearranged .fwd
  rw [State.scrambleRound, State.updateKeys_mem]
  exact ⟨_, hrow.trans hcol⟩

theorem unscrambleRound_permuted (hs : s.HasWindow h w) (r : Nat) :
    Memory.Permuted h w s.mem (s.unscrambleRound r).mem := by
  have hcol := (hs.loadPair r).colPass_rearranged .inv
  have hrow := ((hs.loadPair r).colPass .inv).rowPass_rearranged .inv
  exact ⟨_, hcol.trans hrow⟩

/-- Rounds that keep the window and permute its pixels permute them together. -/
theorem foldl_permuted {round : State → Nat → State} (hkeep : ∀ {v} r, HasWindow h w v → (round v r).HasWindow h w)
    (hround : ∀ {v} r, HasWindow h w v → Memory.Permuted h w v.mem (round v r).mem) (hs : s.HasWindow h w)
    (rs : List Nat) : Memory.Permuted h w s.mem (rs.foldl round s).mem := by
  induction rs generalizing s with
  | nil => exact ⟨_, .refl s.mem⟩
  | cons r rs ih => exact (hround r hs).trans (ih (hkeep r hs))

theorem scramble_permuted (hs : s.HasWindow h w) : Memory.Permuted h w s.mem s.scramble.mem :=
  hs.foldl_permuted (fun r hv => hv.scrambleRound r) (fun r hv => hv.scrambleRound_permuted r) _

theorem unscramble_permuted (hs : s.HasWindow h w) : Memory.Permuted h w s.mem s.unscramble.mem :=
  hs.foldl_permuted (fun r hv => hv.unscrambleRound r) (fun r hv => hv.unscrambleRound_permuted r) _

end State.HasWindow

/-- The four commands permute the pixels of the window. -/
theorem exec_permuted {i : Instr} {s : State} (hs : s.HasWindow s.height s.width) (hd : s.DimsLegal)
    (hr : i = .scr ∨ i = .uscr → s.RoundsLegal)
    (hi : (∃ dir, i = .rowp dir) ∨ (∃ dir, i = .colp dir) ∨ i = .scr ∨ i = .uscr) :
    ∃ t, exec i s = .next t ∧ Memory.Permuted s.height s.width s.mem t.mem := by
  obtain ⟨dir, rfl⟩ | ⟨dir, rfl⟩ | rfl | rfl := hi
  · exact ⟨_, exec_rowp_of_legal hd dir, _, hs.rowPass_rearranged dir⟩
  · exact ⟨_, exec_colp_of_legal hd dir, _, hs.colPass_rearranged dir⟩
  · exact ⟨_, exec_scr_of_legal hd (hr (.inl rfl)), hs.scramble_permuted⟩
  · exact ⟨_, exec_uscr_of_legal hd (hr (.inr rfl)), hs.unscramble_permuted⟩

/-- Settles O40: the permutation of positions is one for all three channels. -/
theorem scramblingPermutesPixels : Obligations.ScramblingPermutesPixels := by
  intro s i hinv hd hr hi
  obtain ⟨t, ht, place, hplace⟩ := exec_permuted (hinv.hasWindow hd) hd hr hi
  exact ⟨t, ht, place, hplace.window⟩

end Machine

end Sys2Proof
end

section
/-! PROOFS. The bitplane_decomposer unit (`42_bitplane_codec.md` R140 to R143): DECOMP puts bit b of each sample into
plane 8c + b, RECOMP puts the bit of plane 8c + b into bit b of each sample, and the laws of the two compare them bit by
bit. -/

namespace Sys2Proof.Machine

/-! ### The bits of a sample -/

/-- The low `n` bits of a number, bit b of weight 2^b. -/
theorem mod_two_pow_eq_sum_testBit (v n : Nat) :
    v % 2 ^ n = ∑ b ∈ Finset.range n, (v.testBit b).toNat * 2 ^ b := by
  induction n with
  | zero => exact Nat.mod_one v
  | succ n ih => rw [Finset.sum_range_succ, Nat.mod_pow_succ, ih, Nat.toNat_testBit, Nat.mul_comm]

theorem toNat_eq_sum_getLsbD {n : Nat} (v : BitVec n) :
    v.toNat = ∑ b ∈ Finset.range n, (v.getLsbD b).toNat * 2 ^ b :=
  (Nat.mod_eq_of_lt v.isLt).symm.trans (mod_two_pow_eq_sum_testBit v.toNat n)

/-! ### Joining eight bits -/

theorem getLsbD_bitByte (v : Bool) (i : Nat) : (bitByte v).getLsbD i = (decide (i = 0) && v) := by
  rw [bitByte, BitVec.getLsbD_setWidth, BitVec.getLsbD_ofBool]
  by_cases hi : i = 0 <;> simp [hi]

/-- A bit's byte shifted left by `b` has that bit at position `b` and 0 at the others. -/
theorem getLsbD_bitByte_shiftLeft (v : Bool) {b i : Nat} (hi : i < 8) :
    (bitByte v <<< b).getLsbD i = (decide (i = b) && v) := by
  have hposition : i = b ↔ ¬ i < b ∧ i - b = 0 := by omega
  rw [BitVec.getLsbD_shiftLeft, getLsbD_bitByte, decide_eq_true hi, Bool.true_and, ← Bool.and_assoc]
  simp only [hposition, Bool.decide_and, decide_not]

/-- The OR of the bits before bit `n`, bit b shifted left by b. -/
def joinBitsBelow (bits : Nat → Bool) (n : Nat) : Byte :=
  (List.range n).foldl (fun acc b => acc ||| (bitByte (bits b) <<< b)) 0

theorem joinBits_eq (bits : Nat → Bool) : joinBits bits = joinBitsBelow bits 8 := rfl

theorem joinBitsBelow_succ (bits : Nat → Bool) (n : Nat) :
    joinBitsBelow bits (n + 1) = joinBitsBelow bits n ||| (bitByte (bits n) <<< n) := by
  rw [joinBitsBelow, List.range_succ, List.foldl_append]
  rfl

/-- The eight shifts are distinct, so no bit meets another (`42_bitplane_codec.md` R142). -/
theorem getLsbD_joinBitsBelow (bits : Nat → Bool) (n : Nat) {i : Nat} (hi : i < 8) :
    (joinBitsBelow bits n).getLsbD i = (decide (i < n) && bits i) := by
  induction n with
  | zero => exact BitVec.getLsbD_zero
  | succ n ih =>
    rw [joinBitsBelow_succ, BitVec.getLsbD_or, ih, getLsbD_bitByte_shiftLeft _ hi]
    obtain hlt | rfl | hgt := Nat.lt_trichotomy i n
    · simp [hlt, hlt.ne, Nat.lt_succ_of_lt hlt]
    · simp
    · simp [hgt.not_gt, hgt.ne', Nat.not_lt.2 hgt]

theorem getLsbD_joinBits (bits : Nat → Bool) {b : Nat} (hb : b < 8) :
    (joinBits bits).getLsbD b = bits b := by
  rw [joinBits_eq, getLsbD_joinBitsBelow bits 8 hb, decide_eq_true hb, Bool.true_and]

/-- The OR equals the sum (`42_bitplane_codec.md` R142). -/
theorem toNat_joinBits (bits : Nat → Bool) :
    (joinBits bits).toNat = ∑ b ∈ Finset.range 8, (bits b).toNat * 2 ^ b := by
  rw [toNat_eq_sum_getLsbD]
  exact Finset.sum_congr rfl fun b hb => by rw [getLsbD_joinBits bits (Finset.mem_range.1 hb)]

/-! ### Plane indices (`42_bitplane_codec.md` R140, `44_plane_reorderer.md` R170) -/

theorem planeIndex_div {b : Nat} (c : Nat) (hb : b < 8) : planeIndex c b / 8 = c := by
  rw [planeIndex]
  omega

theorem planeIndex_mod {b : Nat} (c : Nat) (hb : b < 8) : planeIndex c b % 8 = b := by
  rw [planeIndex]
  omega

theorem planeIndex_div_mod (p : Nat) : planeIndex (p / 8) (p % 8) = p := Nat.div_add_mod p 8

/-- The reordering sends bit b's plane to bit 7-b's of the same channel. -/
theorem shuf_planeIndex {b : Nat} (c : Nat) (hb : b < 8) : shuf (planeIndex c b) = planeIndex c (7 - b) := by
  rw [shuf, planeIndex_div c hb, planeIndex_mod c hb, planeIndex]
  omega

/-! ### What the three operations leave in the window -/

namespace State.HasWindow

variable {h w : Nat} {s : State}

theorem setPlnWindow (hs : s.HasWindow h w) (ps : List Nat) (f : Nat → Nat → Nat → Bool) :
    (s.setPlnWindow ps f).HasWindow h w :=
  ⟨hs.height, hs.width, State.wf_setPlnWindow hs.memWf ps f, hs.heightLe, hs.widthLe⟩

theorem decompose (hs : s.HasWindow h w) : s.decompose.HasWindow h w := hs.setPlnWindow _ _

theorem shuffle (hs : s.HasWindow h w) : s.shuffle.HasWindow h w := hs.setPlnWindow _ _

theorem recompose (hs : s.HasWindow h w) : s.recompose.HasWindow h w := hs.setImgWindow _

variable {c b p y x : Nat}

/-- Replacing the window of all 24 planes. -/
theorem setPlanes_pln (hs : s.HasWindow h w) (f : Nat → Nat → Nat → Bool) (hp : p < 24) (hy : y < h) (hx : x < w) :
    (s.setPlnWindow planes f).pln p y x = f p y x := by
  obtain ⟨rfl, rfl, hwf, hh, hw⟩ := hs
  exact State.setPlnWindow_pln hwf hh hw f (mem_planes.2 hp) hy hx

theorem decompose_pln (hs : s.HasWindow h w) (hc : c < 3) (hb : b < 8) (hy : y < h) (hx : x < w) :
    s.decompose.pln (planeIndex c b) y x = (s.img c y x).getLsbD b := by
  rw [State.decompose, hs.setPlanes_pln _ (planeIndex_lt hc hb) hy hx, planeIndex_div c hb, planeIndex_mod c hb]

theorem shuffle_pln (hs : s.HasWindow h w) (hc : c < 3) (hb : b < 8) (hy : y < h) (hx : x < w) :
    s.shuffle.pln (planeIndex c b) y x = s.pln (planeIndex c (7 - b)) y x := by
  rw [State.shuffle, hs.setPlanes_pln _ (planeIndex_lt hc hb) hy hx, shuf_planeIndex c hb]

theorem recompose_img (hs : s.HasWindow h w) (hc : c < 3) (hy : y < h) (hx : x < w) :
    s.recompose.img c y x = joinBits fun b => s.pln (planeIndex c b) y x := by
  obtain ⟨rfl, rfl, hwf, hh, hw⟩ := hs
  exact State.setImgWindow_img hwf hh hw _ hc hy hx

theorem recompose_img_getLsbD (hs : s.HasWindow h w) (hc : c < 3) (hb : b < 8) (hy : y < h) (hx : x < w) :
    (s.recompose.img c y x).getLsbD b = s.pln (planeIndex c b) y x := by
  rw [hs.recompose_img hc hy hx, getLsbD_joinBits _ hb]

/-- RECOMP after DECOMP (`42_bitplane_codec.md` R143 (a)). -/
theorem recompose_decompose_img (hs : s.HasWindow h w) (hc : c < 3) (hy : y < h) (hx : x < w) :
    s.decompose.recompose.img c y x = s.img c y x :=
  BitVec.eq_of_getLsbD_eq fun _ hb =>
    (hs.decompose.recompose_img_getLsbD hc hb hy hx).trans (hs.decompose_pln hc hb hy hx)

/-- DECOMP after RECOMP (`42_bitplane_codec.md` R143 (b)). -/
theorem decompose_recompose_pln (hs : s.HasWindow h w) (hp : p < 24) (hy : y < h) (hx : x < w) :
    s.recompose.decompose.pln p y x = s.pln p y x := by
  have hc : p / 8 < 3 := by omega
  have hb : p % 8 < 8 := Nat.mod_lt p (by omega)
  rw [← planeIndex_div_mod p, hs.recompose.decompose_pln hc hb hy hx, hs.recompose_img_getLsbD hc hb hy hx]

/-- PSHUF between DECOMP and RECOMP (`42_bitplane_codec.md` R143 (c)). -/
theorem recompose_shuffle_decompose_img_getLsbD (hs : s.HasWindow h w) (hc : c < 3) (hb : b < 8) (hy : y < h)
    (hx : x < w) : (s.decompose.shuffle.recompose.img c y x).getLsbD (7 - b) = (s.img c y x).getLsbD b := by
  have hb' : 7 - b < 8 := by omega
  have hback : 7 - (7 - b) = b := by omega
  calc (s.decompose.shuffle.recompose.img c y x).getLsbD (7 - b)
    _ = s.decompose.shuffle.pln (planeIndex c (7 - b)) y x :=
      hs.decompose.shuffle.recompose_img_getLsbD hc hb' hy hx
    _ = s.decompose.pln (planeIndex c b) y x := by rw [hs.decompose.shuffle_pln hc hb' hy hx, hback]
    _ = (s.img c y x).getLsbD b := hs.decompose_pln hc hb hy hx

end State.HasWindow

/-! ### The outcomes of DECOMP, RECOMP and PSHUF -/

theorem exec_decomp_of_legal {s : State} (hd : s.DimsLegal) : exec .decomp s = .next s.decompose.complete :=
  s.withDims_of_legal hd _

theorem exec_decomp_of_illegal {s : State} (hd : ¬ s.DimsLegal) : exec .decomp s = .next (s.raise .dim) :=
  s.withDims_of_illegal hd _

theorem exec_recomp_of_legal {s : State} (hd : s.DimsLegal) : exec .recomp s = .next s.recompose.complete :=
  s.withDims_of_legal hd _

theorem exec_recomp_of_illegal {s : State} (hd : ¬ s.DimsLegal) : exec .recomp s = .next (s.raise .dim) :=
  s.withDims_of_illegal hd _

theorem exec_pshuf_of_legal {s : State} (hd : s.DimsLegal) : exec .pshuf s = .next s.shuffle.complete :=
  s.withDims_of_legal hd _

/-- Settles O41: plane 8c + b takes bit b by number, and the column of DECOMP is the window of PLN. -/
theorem decompSplitsSamples : Obligations.DecompSplitsSamples := by
  refine ⟨rfl, fun s hinv => ⟨exec_decomp_of_illegal, fun hd => ?_⟩⟩
  have hexec := exec_decomp_of_legal hd
  refine ⟨_, hexec, rfl, fun c b y x hc hb hy hx => ?_, (altersOnly_of_exec hexec).cell⟩
  have hpln := (hinv.hasWindow hd).decompose_pln hc hb hy hx
  exact (congrArg Bool.toNat hpln).trans (Nat.toNat_testBit _ b)

/-- Settles O42: the sample is the OR of the bits, which is their sum, and the column of RECOMP is the window of IMG. -/
theorem recompJoinsPlanes : Obligations.RecompJoinsPlanes := by
  refine ⟨rfl, fun s hinv => ⟨exec_recomp_of_illegal, fun hd => ?_⟩⟩
  have hexec := exec_recomp_of_legal hd
  refine ⟨_, hexec, rfl, fun c y x hc hy hx => ?_, (altersOnly_of_exec hexec).cell⟩
  have himg := (hinv.hasWindow hd).recompose_img hc hy hx
  exact (congrArg BitVec.toNat himg).trans (toNat_joinBits _)

/-! ### Commands in a row: none of the three operations reads STATUS -/

theorem State.decompose_complete (s : State) : s.complete.decompose = s.decompose.complete := rfl

theorem State.recompose_complete (s : State) : s.complete.recompose = s.recompose.complete := rfl

theorem State.shuffle_complete (s : State) : s.complete.shuffle = s.shuffle.complete := rfl

/-- DECOMP then RECOMP. -/
theorem runCommands_decomp_recomp {s : State} (hd : s.DimsLegal) :
    runCommands [.decomp, .recomp] s = .next s.decompose.recompose.complete := by
  have hrecomp : s.decompose.complete.DimsLegal := hd
  rw [runCommands_cons_of_next (exec_decomp_of_legal hd), runCommands_cons_of_next (exec_recomp_of_legal hrecomp),
    State.recompose_complete, State.complete_complete, runCommands]

/-- RECOMP then DECOMP. -/
theorem runCommands_recomp_decomp {s : State} (hd : s.DimsLegal) :
    runCommands [.recomp, .decomp] s = .next s.recompose.decompose.complete := by
  have hdecomp : s.recompose.complete.DimsLegal := hd
  rw [runCommands_cons_of_next (exec_recomp_of_legal hd), runCommands_cons_of_next (exec_decomp_of_legal hdecomp),
    State.decompose_complete, State.complete_complete, runCommands]

/-- DECOMP, PSHUF, RECOMP. -/
theorem runCommands_decomp_pshuf_recomp {s : State} (hd : s.DimsLegal) :
    runCommands [.decomp, .pshuf, .recomp] s = .next s.decompose.shuffle.recompose.complete := by
  have hpshuf : s.decompose.complete.DimsLegal := hd
  have hrecomp : s.decompose.shuffle.complete.DimsLegal := hd
  rw [runCommands_cons_of_next (exec_decomp_of_legal hd), runCommands_cons_of_next (exec_pshuf_of_legal hpshuf),
    State.shuffle_complete, State.complete_complete, runCommands_cons_of_next (exec_recomp_of_legal hrecomp),
    State.recompose_complete, State.complete_complete, runCommands]

/-- Settles O43: the three laws hold bit by bit in the window. -/
theorem codecRoundTrips : Obligations.CodecRoundTrips := by
  intro s hinv hd
  have hs := hinv.hasWindow hd
  exact ⟨⟨_, runCommands_decomp_recomp hd, fun _ _ _ => hs.recompose_decompose_img⟩,
    ⟨_, runCommands_recomp_decomp hd, fun _ _ _ => hs.decompose_recompose_pln⟩,
    _, runCommands_decomp_pshuf_recomp hd, fun _ _ _ hc hy hx _ hb =>
      hs.recompose_shuffle_decompose_img_getLsbD hc hb hy hx⟩

end Sys2Proof.Machine
end

section
/-! PROOFS. The border of a plane (`43_bitplane_rotator.md` R150 to R152): the ring names every border cell once, and
`frot` fills every cell from another one by a permutation of cells that turns the ring. -/

namespace Sys2Proof.Machine

/-! ### The ring (`43_bitplane_rotator.md` R150) -/

/-- The length of the ring. -/
theorem length_ring {h w : Nat} (hh : 2 ≤ h) (hw : 2 ≤ w) : (ring h w).length = 2 * (h + w) - 4 := by
  simp only [ring, List.length_append, List.length_map, List.length_range]
  omega

/-! The four segments. -/

/-- An entry of a segment is found behind everything before the segment. -/
theorem getElem?_segment {α : Type} (before after : List α) {n k : Nat} (hk : k < n) (cell : Nat → α) :
    (before ++ (List.range n).map cell ++ after)[before.length + k]? = some (cell k) := by
  rw [List.append_assoc, List.getElem?_append_right (Nat.le_add_right _ _), Nat.add_sub_cancel_left,
    List.getElem?_append_left (by simpa using hk)]
  simp [hk]

theorem getElem?_ring_top (h : Nat) {w k : Nat} (hk : k < w) : (ring h w)[k]? = some (0, k) := by
  simpa [ring] using getElem?_segment [] _ hk fun x => (0, x)

theorem getElem?_ring_right {h k : Nat} (w : Nat) (hk : k < h - 2) : (ring h w)[w + k]? = some (k + 1, w - 1) := by
  simpa [ring] using getElem?_segment ((List.range w).map fun x => (0, x)) _ hk fun y => (y + 1, w - 1)

theorem getElem?_ring_bottom (h : Nat) {w k : Nat} (hk : k < w) :
    (ring h w)[w + (h - 2) + k]? = some (h - 1, w - 1 - k) := by
  have hsegment := getElem?_segment ((List.range w).map (fun x => (0, x))
    ++ (List.range (h - 2)).map (fun y => (y + 1, w - 1))) ((List.range (h - 2)).map fun y => (h - 2 - y, 0)) hk
    fun x => (h - 1, w - 1 - x)
  rwa [List.length_append, List.length_map, List.length_range, List.length_map, List.length_range] at hsegment

theorem getElem?_ring_left {h k : Nat} (w : Nat) (hk : k < h - 2) :
    (ring h w)[w + (h - 2) + w + k]? = some (h - 2 - k, 0) := by
  have hsegment := getElem?_segment ((List.range w).map (fun x => (0, x))
    ++ (List.range (h - 2)).map (fun y => (y + 1, w - 1)) ++ (List.range w).map (fun x => (h - 1, w - 1 - x))) [] hk
    fun y => (h - 2 - y, 0)
  simp only [List.length_append, List.length_map, List.length_range, List.append_nil] at hsegment
  exact hsegment

theorem mem_ring {h w : Nat} (hh : 2 ≤ h) (hw : 2 ≤ w) {y x : Nat} :
    (y, x) ∈ ring h w ↔ y < h ∧ x < w ∧ (y = 0 ∨ y = h - 1 ∨ x = 0 ∨ x = w - 1) := by
  simp only [ring, List.mem_append, List.mem_map, List.mem_range, Prod.mk.injEq]
  constructor
  · rintro (((⟨a, ha, rfl, rfl⟩ | ⟨a, ha, rfl, rfl⟩) | ⟨a, ha, rfl, rfl⟩) | ⟨a, ha, rfl, rfl⟩) <;> omega
  · rintro ⟨hy, hx, hborder⟩
    by_cases htop : y = 0
    · exact .inl (.inl (.inl ⟨x, hx, htop.symm, rfl⟩))
    by_cases hbottom : y = h - 1
    · exact .inl (.inr ⟨w - 1 - x, by omega, hbottom.symm, by omega⟩)
    by_cases hright : x = w - 1
    · exact .inl (.inl (.inr ⟨y - 1, by omega, by omega, hright.symm⟩))
    · exact .inr ⟨h - 2 - y, by omega, by omega, by omega⟩

/-- No two segments share a cell, and none names a cell twice. -/
theorem nodup_ring {h w : Nat} (hh : 2 ≤ h) (hw : 2 ≤ w) : (ring h w).Nodup := by
  have hsegment : ∀ (n : Nat) (cell : Nat → Nat × Nat), (∀ a < n, ∀ b < n, cell a = cell b → a = b) →
      ((List.range n).map cell).Nodup := fun n cell hcell =>
    List.nodup_range.map_on fun a ha b hb => hcell a (List.mem_range.1 ha) b (List.mem_range.1 hb)
  simp only [ring, List.nodup_append, List.mem_append, List.mem_map, List.mem_range]
  refine ⟨⟨⟨hsegment _ _ ?_, hsegment _ _ ?_, ?_⟩, hsegment _ _ ?_, ?_⟩, hsegment _ _ ?_, ?_⟩
  -- A cell's row or column gives its position in its segment, and the cells of two segments differ in one of them.
  all_goals grind

/-- Settles O44: the lemmas above. -/
theorem ringIsTheBorderClockwise : Obligations.RingIsTheBorderClockwise := fun h w hh hw =>
  ⟨length_ring hh hw, nodup_ring hh hw, fun _ _ => mem_ring hh hw, fun _ => getElem?_ring_top h,
    fun _ => getElem?_ring_right w, fun _ => getElem?_ring_bottom h, fun _ => getElem?_ring_left w⟩

/-! ### The permutation of cells that a rotation makes -/

theorem turn_add (n : Nat) (a b : Int) : turn n (a + b) = turn n a * turn n b := by
  refine Equiv.ext fun x => Fin.ext ?_
  have hstep := wrap_wrap_add (x - b) (-a) x.pos
  calc wrap (x - (a + b)) n
    _ = wrap (x - b + -a) n := congrArg (wrap · n) (by ring)
    _ = wrap (wrap (x - b) n - a) n := hstep.symm

/-- Whole turns. -/
theorem turn_mul_self (n : Nat) (m : Int) : turn n (m * n) = 1 := by
  refine Equiv.ext fun x => Fin.ext ?_
  calc wrap (x - m * n) n
    _ = wrap (x : Nat) n := by rw [wrap, Int.sub_mul_emod_self_right, wrap]
    _ = x := by rw [wrap_natCast, Nat.mod_eq_of_lt x.isLt]

/-- The cell that each cell is filled from when the border turns by `steps` (`43_bitplane_rotator.md` R151): a cell on
the ring from the ring cell `steps` positions before it, every other cell from itself. -/
def frotPlace (h w : Nat) (steps : Int) : Equiv.Perm (Nat × Nat) :=
  if hsize : 2 ≤ h ∧ 2 ≤ w then
    (turn (ring h w).length steps).extendDomain (List.Nodup.getEquiv _ (nodup_ring hsize.1 hsize.2))
  else 1

theorem frotPlace_of_thin {h w : Nat} (hsize : h < 2 ∨ w < 2) (steps : Int) : frotPlace h w steps = 1 :=
  dif_neg (by omega)

section
variable {h w : Nat} (hh : 2 ≤ h) (hw : 2 ≤ w)
include hh hw

theorem frotPlace_getElem (steps : Int) (q : Fin (ring h w).length) :
    frotPlace h w steps (ring h w)[q] = (ring h w)[turn _ steps q] := by
  rw [frotPlace, dif_pos ⟨hh, hw⟩]
  exact Equiv.Perm.extendDomain_apply_image _ (List.Nodup.getEquiv _ (nodup_ring hh hw)) q

theorem frotPlace_of_not_mem (steps : Int) {cell : Nat × Nat} (hcell : cell ∉ ring h w) :
    frotPlace h w steps cell = cell := by
  rw [frotPlace, dif_pos ⟨hh, hw⟩]
  exact Equiv.Perm.extendDomain_apply_not_subtype _ _ hcell

end

theorem frotPlace_add (h w : Nat) (s t : Int) : frotPlace h w (s + t) = frotPlace h w s * frotPlace h w t := by
  by_cases hsize : 2 ≤ h ∧ 2 ≤ w
  · simp only [frotPlace, dif_pos hsize, turn_add, Equiv.Perm.extendDomain_mul]
  · simp only [frotPlace, dif_neg hsize, mul_one]

/-- The ring turned whole times. -/
theorem frotPlace_whole {h w : Nat} (m : Int) : frotPlace h w (m * (2 * ((h : Int) + w) - 4)) = 1 := by
  by_cases hsize : 2 ≤ h ∧ 2 ≤ w
  · obtain ⟨hh, hw⟩ := hsize
    have hlength : 2 * ((h : Int) + w) - 4 = (ring h w).length := by
      rw [length_ring hh hw]
      omega
    rw [frotPlace, dif_pos ⟨hh, hw⟩, hlength, turn_mul_self, Equiv.Perm.extendDomain_one]
  · exact frotPlace_of_thin (by omega) _

/-- Cells of the window are filled from cells of the window. -/
theorem frotPlace_mem_window {h w : Nat} (steps : Int) (cell : Nat × Nat) :
    frotPlace h w steps cell ∈ Finset.range h ×ˢ Finset.range w ↔ cell ∈ Finset.range h ×ˢ Finset.range w := by
  by_cases hsize : 2 ≤ h ∧ 2 ≤ w
  · obtain ⟨hh, hw⟩ := hsize
    by_cases hcell : cell ∈ ring h w
    · have hwindow : ∀ c ∈ ring h w, c ∈ Finset.range h ×ˢ Finset.range w := fun c hc => by
        simpa using inWindow_of_mem_ring hh hw hc
      obtain ⟨i, hi, rfl⟩ := List.mem_iff_getElem.1 hcell
      have hplace := frotPlace_getElem hh hw steps ⟨i, hi⟩
      exact iff_of_true (hplace ▸ hwindow _ (List.getElem_mem _)) (hwindow _ hcell)
    · rw [frotPlace_of_not_mem hh hw steps hcell]
  · rw [frotPlace_of_thin (by omega), Equiv.Perm.one_apply]

/-! ### Rotating a border (`43_bitplane_rotator.md` R151, R152) -/

/-- The position of an entry of a list without repeats. -/
theorem idxOf?_eq_some_of_nodup {α : Type} [BEq α] [LawfulBEq α] {l : List α} (hl : l.Nodup) {i : Nat}
    (hi : i < l.length) : l.idxOf? l[i] = some i :=
  List.idxOf?_eq_some_iff.2 ⟨hi, rfl, fun _ hj heq => hj.ne (hl.getElem_inj_iff.1 heq)⟩

/-- Every cell takes the bit of the cell it is filled from. -/
theorem frot_eq_frotPlace (g : Nat → Nat → Bool) (h w : Nat) (steps : Int) (y x : Nat) :
    frot g h w steps y x = g (frotPlace h w steps (y, x)).1 (frotPlace h w steps (y, x)).2 := by
  by_cases hsize : h < 2 ∨ w < 2
  · rw [frotPlace_of_thin hsize, frot, if_pos hsize]
    rfl
  · have hh : 2 ≤ h := by omega
    have hw : 2 ≤ w := by omega
    rw [frot, if_neg hsize]
    by_cases hcell : (y, x) ∈ ring h w
    · obtain ⟨i, hi, heq⟩ := List.mem_iff_getElem.1 hcell
      have hplace := frotPlace_getElem hh hw steps ⟨i, hi⟩
      have hidx := idxOf?_eq_some_of_nodup (nodup_ring hh hw) hi
      simp only [Fin.getElem_fin, heq] at hplace hidx
      have hlt := wrap_lt (i - steps) (Nat.zero_lt_of_lt hi)
      rw [hidx, hplace]
      dsimp only
      rw [List.getD_eq_getElem _ _ hlt]
      rfl
    · rw [frotPlace_of_not_mem hh hw steps hcell, List.idxOf?_eq_none_iff.2 hcell]

/-- The bit of a ring cell goes `steps` positions on. -/
theorem frot_ring_forward (g : Nat → Nat → Bool) {h w : Nat} (hh : 2 ≤ h) (hw : 2 ≤ w) {steps : Int}
    {k y x y' x' : Nat} (hfrom : (ring h w)[k]? = some (y, x))
    (hto : (ring h w)[wrap (k + steps) (ring h w).length]? = some (y', x')) : frot g h w steps y' x' = g y x := by
  obtain ⟨hk, hfrom⟩ := List.getElem?_eq_some_iff.1 hfrom
  obtain ⟨_, hto⟩ := List.getElem?_eq_some_iff.1 hto
  have hplace := frotPlace_getElem hh hw steps ((turn _ steps).symm ⟨k, hk⟩)
  simp only [Equiv.apply_symm_apply] at hplace
  have hcell : frotPlace h w steps (y', x') = (y, x) := hto ▸ hfrom ▸ hplace
  rw [frot_eq_frotPlace, hcell]

/-- Settles O45: the ring cells by their positions, the other cells by `frotPlace_of_not_mem`. -/
theorem frotMovesTheRing : Obligations.FrotMovesTheRing := by
  intro g h w steps
  refine ⟨fun hsize y x => ?_, fun hh hw => ⟨fun k y x y' x' _ hfrom hto => ?_, fun y x hcell => ?_⟩⟩
  · rw [frot_eq_frotPlace, frotPlace_of_thin hsize, Equiv.Perm.one_apply]
  · rw [← length_ring hh hw] at hto
    exact frot_ring_forward g hh hw hfrom hto
  · rw [frot_eq_frotPlace, frotPlace_of_not_mem hh hw steps hcell]

/-- Rotations add (`43_bitplane_rotator.md` R152 (b)). -/
theorem frot_frot (g : Nat → Nat → Bool) (h w : Nat) (s t : Int) (y x : Nat) :
    frot (frot g h w s) h w t y x = frot g h w (s + t) y x := by
  simp only [frot_eq_frotPlace, frotPlace_add, Equiv.Perm.mul_apply]

/-- Whole turns change nothing (`43_bitplane_rotator.md` R152 (c)). -/
theorem frot_whole (g : Nat → Nat → Bool) {h w : Nat} (m : Int) (y x : Nat) :
    frot g h w (m * (2 * ((h : Int) + w) - 4)) y x = g y x := by
  rw [frot_eq_frotPlace, frotPlace_whole, Equiv.Perm.one_apply]

/-- The rotation by the negative undoes a rotation (`43_bitplane_rotator.md` R152 (a)). -/
theorem frot_frot_neg (g : Nat → Nat → Bool) (h w : Nat) (s : Int) (y x : Nat) :
    frot (frot g h w s) h w (-s) y x = g y x := by
  have hnone : s + -s = 0 * (2 * ((h : Int) + w) - 4) := by ring
  rw [frot_frot, hnone, frot_whole]

theorem frot_interior (g : Nat → Nat → Bool) {h w : Nat} (s : Int) {y x : Nat} (hy : 1 ≤ y) (hyh : y + 1 < h)
    (hx : 1 ≤ x) (hxw : x + 1 < w) : frot g h w s y x = g y x := by
  have hh : 2 ≤ h := by omega
  have hw : 2 ≤ w := by omega
  have hcell : (y, x) ∉ ring h w := by
    rw [mem_ring hh hw]
    omega
  rw [frot_eq_frotPlace, frotPlace_of_not_mem hh hw s hcell]

/-- A sum over the window, cell by cell, is the same sum in another order (`43_bitplane_rotator.md` R152 (d)). -/
theorem sum_frot (g : Nat → Nat → Bool) (h w : Nat) (s : Int) :
    ∑ y ∈ Finset.range h, ∑ x ∈ Finset.range w, (frot g h w s y x).toNat
      = ∑ y ∈ Finset.range h, ∑ x ∈ Finset.range w, (g y x).toNat := by
  simp only [frot_eq_frotPlace, ← Finset.sum_product']
  exact Finset.sum_equiv (frotPlace h w s) (fun cell => (frotPlace_mem_window s cell).symm) fun _ _ => rfl

/-- Settles O46: the laws of the rotation above. -/
theorem frotLaws : Obligations.FrotLaws := by
  intro g h w s t _ _
  refine ⟨frot_frot_neg g h w s, frot_frot g h w s t, ?_, fun _ _ => frot_interior g s, sum_frot g h w s, ?_⟩
  · rintro m rfl
    exact frot_whole g m
  · intro hh hw hthin y x hy hx
    rw [mem_ring hh hw]
    omega

end Sys2Proof.Machine
end

section
/-! PROOFS. The bitplane_rotator (`43_bitplane_rotator.md` R153 to R157): the key bits a step reads, and FROT, FROTK and
FROTA as one operation that rotates the borders of some planes, each by its own amount. -/

namespace Sys2Proof

/-- The bits of the left part stand above those of the right part. -/
theorem toNat_append_eq_add {n m : Nat} (v : BitVec n) (u : BitVec m) :
    (v ++ u).toNat = v.toNat * 2 ^ m + u.toNat := by
  rw [BitVec.toNat_append, ← Nat.shiftLeft_add_eq_or_of_lt u.isLt, Nat.shiftLeft_eq]

/-- A command word from its fields as a number (`30_encoding.md` R81). -/
theorem assemble_eq_ofNat (imm : BitVec 16) (p : BitVec 5) (dir : BitVec 1) (op : BitVec 8) :
    assemble imm p dir op = BitVec.ofNat 32 (imm.toNat * 65536 + p.toNat * 512 + dir.toNat * 256 + op.toNat) := by
  apply BitVec.eq_of_toNat_eq
  simp only [assemble, toNat_append_eq_add, BitVec.toNat_ofNat]
  omega

namespace Machine

/-! ### The words of FROT and FROTK -/

theorem decode_frot_word {p : Nat} {steps : Int} (hp : p < 32) (hlow : -32768 ≤ steps) (hhigh : steps ≤ 32767) :
    decode (BitVec.ofNat 32 (wrap steps 65536 * 65536 + p * 512 + 0x30)) = .ok (.frot p steps) := by
  have himm : (BitVec.ofInt 16 steps).toNat = wrap steps 65536 := BitVec.toNat_ofInt steps
  have hword : encode (.frot p steps) = BitVec.ofNat 32 (wrap steps 65536 * 65536 + p * 512 + 0x30) := by
    rw [encode, assemble_eq_ofNat, himm, BitVec.toNat_ofNat, Nat.mod_eq_of_lt hp]
    simp
  have hwf : (Instr.frot p steps).WellFormed := by
    rw [Instr.WellFormed, Instr.wellFormed, decide_eq_true hp, decide_eq_true ⟨hlow, hhigh⟩]
    rfl
  exact hword ▸ decodeOfEncode _ hwf

theorem decode_frotk_word {p : Nat} (hp : p < 32) (dir : Dir) :
    decode (BitVec.ofNat 32 (p * 512 + dir.bit.toNat * 256 + 0x31)) = .ok (.frotk p dir) := by
  have hword : encode (.frotk p dir) = BitVec.ofNat 32 (p * 512 + dir.bit.toNat * 256 + 0x31) := by
    rw [encode, assemble_eq_ofNat, BitVec.toNat_ofNat, Nat.mod_eq_of_lt hp]
    simp
  exact hword ▸ decodeOfEncode (.frotk p dir) (decide_eq_true hp)

/-! ### The key step (`43_bitplane_rotator.md` R153) -/

/-- The two digits add to less than the modulus 5. -/
theorem fstep_eq (a b : BitString) (idx : Nat) :
    fstep a b idx = digit (reduce a) (idx % (reduce a).length) + digit (reduce b) (idx % (reduce b).length) := by
  have ha := digit_le_one (reduce a) (idx % (reduce a).length)
  have hb := digit_le_one (reduce b) (idx % (reduce b).length)
  rw [fstep, Nat.mod_eq_of_lt (by omega)]

theorem fstep_le_two (a b : BitString) (idx : Nat) : fstep a b idx ≤ 2 := by
  rw [fstep_eq]
  exact Nat.add_le_add (digit_le_one _ _) (digit_le_one _ _)

/-- The digit a plane reads of a key as long as the registers. -/
theorem digit_reduce_of_length {k : BitString} (hk : k.length = 128) {idx : Nat} (hidx : idx < 24) :
    digit (reduce k) (idx % (reduce k).length) = (bitAt k (idx + idx / 3)).toNat := by
  have hlt : idx < (reduce k).length := by
    rw [length_reduce, hk]
    omega
  rw [Nat.mod_eq_of_lt hlt, digit, bitAt_reduce hlt]

theorem fstep_of_length {a b : BitString} (ha : a.length = 128) (hb : b.length = 128) {idx : Nat} (hidx : idx < 24) :
    fstep a b idx = (bitAt a (idx + idx / 3)).toNat + (bitAt b (idx + idx / 3)).toNat := by
  rw [fstep_eq, digit_reduce_of_length ha hidx, digit_reduce_of_length hb hidx]

/-- Reduced keys of 8 bits have 6 digits. -/
theorem fstep_add_six {a b : BitString} (ha : a.length = 8) (hb : b.length = 8) (idx : Nat) :
    fstep a b (idx + 6) = fstep a b idx := by
  rw [fstep, fstep, length_reduce, length_reduce, ha, hb, Nat.add_mod_right]

/-- Settles O47: the lemmas above. -/
theorem fstepAddsTwoDigits : Obligations.FstepAddsTwoDigits :=
  ⟨fun a b idx _ _ => ⟨fstep_le_two a b idx, fstep_eq a b idx⟩, fun _ _ _ ha hb => fstep_of_length ha hb,
    fun _ _ idx ha hb => fstep_add_six ha hb idx⟩

/-! ### Bits and bytes of PLN -/

theorem Memory.mem_of_read_ne_zero {m : Memory} {a : Nat} (h : m.read a ≠ 0) : (a, m.read a) ∈ m := by
  induction m with
  | nil => exact absurd rfl h
  | cons cell m ih =>
    obtain ⟨b, v⟩ := cell
    rw [Memory.read] at h ⊢
    split_ifs at h ⊢ with hab
    · exact hab ▸ List.mem_cons_self
    · exact List.mem_cons_of_mem _ (ih h)

/-- Cutting a byte to its bit 0 leaves the byte of that bit. -/
theorem and_one_eq_bitByte (v : Byte) : v &&& 1 = bitByte (v.getLsbD 0) := by
  refine BitVec.eq_of_getLsbD_eq fun i _ => ?_
  rw [getLsbD_bitByte, BitVec.getLsbD_and]
  by_cases hi : i = 0
  · simp [hi]
  · simp [hi]

/-- A byte cut to an element of PLN. -/
theorem fitByte_plnAddr_eq_bitByte {params : Config.Params} (hp : params.Legal) {p y x : Nat} (hpl : p < 24)
    (hy : y < params.hmax) (hx : x < params.wmax) (v : Byte) :
    fitByte params (plnAddr p y x) v = bitByte (v.getLsbD 0) := by
  obtain ⟨-, hh, -, hw⟩ := hp
  rw [fitByte, decodeAddr_plnAddr hpl hy hx (by omega) (by omega)]
  exact and_one_eq_bitByte v

/-- A plane cell of fitting memory holds the byte of its bit (`20_memory.md` R57). -/
theorem Memory.Fits.read_plnAddr {m : Memory} {params : Config.Params} (hm : m.Fits params) (hp : params.Legal)
    {p y x : Nat} (hpl : p < 24) (hy : y < params.hmax) (hx : x < params.wmax) :
    m.read (plnAddr p y x) = bitByte ((m.read (plnAddr p y x)).getLsbD 0) := by
  by_cases hzero : m.read (plnAddr p y x) = 0
  · rw [hzero]
    rfl
  · rw [← fitByte_plnAddr_eq_bitByte hp hpl hy hx]
    exact (hm _ (Memory.mem_of_read_ne_zero hzero)).symm

/-- Two states of one block with the same plane bits in the window and the same cells elsewhere have the same memory. -/
theorem State.StorageOk.mem_eq_of_samePlnWindow {s t : State} (hs : s.StorageOk) (ht : t.StorageOk)
    (hparams : t.params = s.params) (hd : s.DimsLegal) (hpln : SamePlnWindow s t)
    (houtside : ∀ a, ¬ s.InPlnWindow a → t.mem.read a = s.mem.read a) : t.mem = s.mem := by
  refine Memory.ext_of_wf ht.memWf hs.memWf fun a => ?_
  by_cases ha : s.InPlnWindow a
  · obtain ⟨p, hp, y, x, hy, hx, rfl⟩ := ha
    obtain ⟨-, hh, -, hw⟩ := hd
    have hfits := ht.memFits
    rw [hparams] at hfits
    calc t.mem.read (plnAddr p y x)
      _ = bitByte (t.pln p y x) := hfits.read_plnAddr hs.params hp (by omega) (by omega)
      _ = bitByte (s.pln p y x) := congrArg bitByte (hpln p y x hp hy hx)
      _ = s.mem.read (plnAddr p y x) := (hs.memFits.read_plnAddr hs.params hp (by omega) (by omega)).symm
  · exact houtside a ha

/-! ### Rotating the borders of some planes -/

/-- Rotate the borders of the planes `ps`, plane p by `amount p`: what FROT, FROTK and FROTA have in common. -/
def State.rotatePlanes (s : State) (ps : List Nat) (amount : Nat → Int) : State :=
  s.setPlnWindow ps fun p y x => frot (s.pln p) s.height s.width (amount p) y x

theorem State.rotateAll_eq_rotatePlanes (s : State) (dir : Dir) :
    s.rotateAll dir = s.rotatePlanes planes (s.planeSteps · dir) := rfl

/-- Functions that agree on the window replace it alike. -/
theorem State.setPlnWindow_congr (s : State) {ps : List Nat} {f f' : Nat → Nat → Nat → Bool}
    (hf : ∀ p y x, p ∈ ps → y < s.height → x < s.width → f p y x = f' p y x) :
    s.setPlnWindow ps f = s.setPlnWindow ps f' := by
  have hcells : windowCells plnAddr ps s.height s.width (fun p y x => bitByte (f p y x))
      = windowCells plnAddr ps s.height s.width fun p y x => bitByte (f' p y x) := by
    refine List.flatMap_congr fun p hp => List.flatMap_congr fun y hy => List.map_congr_left fun x hx => ?_
    dsimp only
    rw [hf p y x hp (List.mem_range.1 hy) (List.mem_range.1 hx)]
  rw [State.setPlnWindow, State.setPlnWindow, hcells]

/-- The first plane replaced before the others. -/
theorem State.setPlnWindow_cons (s : State) (p : Nat) (ps : List Nat) (f : Nat → Nat → Nat → Bool) :
    s.setPlnWindow (p :: ps) f = (s.setPlnWindow [p] f).setPlnWindow ps f := by
  simp only [State.setPlnWindow, windowCells, List.flatMap_cons, List.flatMap_nil, List.append_nil, Memory.writeAll,
    List.foldl_append]
  rfl

/-- The amounts of the planes that are rotated are all that matters. -/
theorem State.rotatePlanes_congr (s : State) {ps : List Nat} {amount amount' : Nat → Int}
    (hamount : ∀ p ∈ ps, amount p = amount' p) : s.rotatePlanes ps amount = s.rotatePlanes ps amount' :=
  s.setPlnWindow_congr fun p _ _ hp _ _ => by rw [hamount p hp]

theorem State.rotatePlane_eq_rotatePlanes (s : State) (p : Nat) (amount : Nat → Int) :
    s.rotatePlane p (amount p) = s.rotatePlanes [p] amount :=
  s.rotatePlanes_congr (amount := fun _ => amount p) fun _ hq => congrArg amount (List.mem_singleton.1 hq).symm

theorem State.DataReach.rotatePlanes {s u : State} (h : s.DataReach u) (hd : s.DimsLegal) {ps : List Nat}
    (hps : ∀ p ∈ ps, p < 24) (amount : Nat → Int) : s.DataReach (u.rotatePlanes ps amount) := h.setPlnWindow hd hps _

/-- A cell outside the rotated planes' windows is not written. -/
theorem State.rotatePlanes_read_of_outside (s : State) {ps : List Nat} (hps : ∀ p ∈ ps, p < 24) (amount : Nat → Int)
    {a : Nat} (ha : ¬ s.InPlnWindow a) : (s.rotatePlanes ps amount).mem.read a = s.mem.read a :=
  s.setPlnWindow_read_of_not_mem ps _ fun p y x hp hy hx heq => ha ⟨p, hps p hp, y, x, hy, hx, heq⟩

namespace State.HasWindow

variable {h w : Nat} {s : State} (hs : s.HasWindow h w)
include hs

theorem rotatePlanes (ps : List Nat) (amount : Nat → Int) : (s.rotatePlanes ps amount).HasWindow h w :=
  hs.setPlnWindow ps _

theorem rotatePlanes_pln {ps : List Nat} (amount : Nat → Int) {p y x : Nat} (hp : p ∈ ps) (hy : y < h) (hx : x < w) :
    (s.rotatePlanes ps amount).pln p y x = frot (s.pln p) h w (amount p) y x := by
  obtain ⟨rfl, rfl, hwf, hh, hw⟩ := hs
  exact State.setPlnWindow_pln hwf hh hw _ hp hy hx

theorem rotatePlanes_pln_of_not_mem {ps : List Nat} (amount : Nat → Int) {p y x : Nat} (hp : p ∉ ps) (hy : y < h)
    (hx : x < w) : (s.rotatePlanes ps amount).pln p y x = s.pln p y x := by
  obtain ⟨rfl, rfl, -, hh, hw⟩ := hs
  exact State.setPlnWindow_pln_of_not_mem hh hw _ hp hy hx

/-- The planes are independent (`43_bitplane_rotator.md` R157): rotating one leaves the others as they were. -/
theorem rotatePlanes_cons {p : Nat} {ps : List Nat} (hp : p ∉ ps) (amount : Nat → Int) :
    s.rotatePlanes (p :: ps) amount = (s.rotatePlanes [p] amount).rotatePlanes ps amount := by
  refine (s.setPlnWindow_cons p ps _).trans (State.setPlnWindow_congr _ fun q y x hq hy hx => ?_)
  have hne : q ∉ [p] := fun hqp => hp (List.mem_singleton.1 hqp ▸ hq)
  exact frot_congr (fun y' x' hy' hx' =>
    (hs.rotatePlanes_pln_of_not_mem amount hne (hs.height ▸ hy') (hs.width ▸ hx')).symm) _ hy hx

/-- Rotated by the amounts and then by their negatives, every plane has its bits again. -/
theorem rotatePlanes_neg_rotatePlanes_pln (ps : List Nat) (amount : Nat → Int) {p y x : Nat} (hy : y < h) (hx : x < w) :
    ((s.rotatePlanes ps amount).rotatePlanes ps (-amount)).pln p y x = s.pln p y x := by
  have ht := hs.rotatePlanes ps amount
  by_cases hp : p ∈ ps
  · calc ((s.rotatePlanes ps amount).rotatePlanes ps (-amount)).pln p y x
      _ = frot ((s.rotatePlanes ps amount).pln p) h w (-amount p) y x := ht.rotatePlanes_pln (-amount) hp hy hx
      _ = frot (frot (s.pln p) h w (amount p)) h w (-amount p) y x :=
        frot_congr (fun _ _ hy' hx' => hs.rotatePlanes_pln amount hp hy' hx') _ hy hx
      _ = s.pln p y x := frot_frot_neg _ h w _ y x
  · rw [ht.rotatePlanes_pln_of_not_mem _ hp hy hx, hs.rotatePlanes_pln_of_not_mem _ hp hy hx]

end State.HasWindow

section
variable {s : State} (hinv : s.Inv) (hd : s.DimsLegal)
include hinv hd

theorem State.Inv.rotatePlanes_storageOk {ps : List Nat} (hps : ∀ p ∈ ps, p < 24) (amount : Nat → Int) :
    (s.rotatePlanes ps amount).StorageOk := ((State.DataReach.refl hinv.storage).rotatePlanes hd hps amount).storage

/-- Rotating back restores the memory, byte by byte. -/
theorem State.Inv.rotatePlanes_undone {ps : List Nat} (hps : ∀ p ∈ ps, p < 24) (amount : Nat → Int) :
    ((s.rotatePlanes ps amount).rotatePlanes ps (-amount)).mem = s.mem := by
  have hback := (((State.DataReach.refl hinv.storage).rotatePlanes hd hps amount).rotatePlanes hd hps (-amount)).storage
  refine hinv.storage.mem_eq_of_samePlnWindow hback rfl hd
    (fun _ _ _ _ => (hinv.hasWindow hd).rotatePlanes_neg_rotatePlanes_pln ps amount) fun a ha => ?_
  have ha' : ¬ (s.rotatePlanes ps amount).InPlnWindow a := ha
  rw [State.rotatePlanes_read_of_outside _ hps _ ha', s.rotatePlanes_read_of_outside hps amount ha]

/-- Lists of the same planes. -/
theorem State.Inv.rotatePlanes_congr_mem {ps qs : List Nat} (hmem : ∀ p, p ∈ ps ↔ p ∈ qs) (hqs : ∀ p ∈ qs, p < 24)
    (amount : Nat → Int) : s.rotatePlanes ps amount = s.rotatePlanes qs amount := by
  have hps : ∀ p ∈ ps, p < 24 := fun p hp => hqs p ((hmem p).1 hp)
  have hs := hinv.hasWindow hd
  have hsame : (s.rotatePlanes ps amount).mem = (s.rotatePlanes qs amount).mem := by
    refine (hinv.rotatePlanes_storageOk hd hqs amount).mem_eq_of_samePlnWindow
      (hinv.rotatePlanes_storageOk hd hps amount) rfl hd (fun p y x _ hy hx => ?_) fun a ha => ?_
    · by_cases hp : p ∈ qs
      · rw [hs.rotatePlanes_pln amount hp hy hx, hs.rotatePlanes_pln amount ((hmem p).2 hp) hy hx]
      · rw [hs.rotatePlanes_pln_of_not_mem amount hp hy hx,
          hs.rotatePlanes_pln_of_not_mem amount (mt (hmem p).1 hp) hy hx]
    · rw [s.rotatePlanes_read_of_outside hps amount ha, s.rotatePlanes_read_of_outside hqs amount ha]
  exact congrArg (fun m => { s with mem := m }) hsame

end

/-! ### The outcomes of FROT, FROTK and FROTA -/

theorem exec_frot_of_legal {s : State} {p : Nat} (hd : s.DimsLegal) (hp : p < 24) (steps : Int) :
    exec (.frot p steps) s = .next (s.rotatePlanes [p] fun _ => steps).complete :=
  (s.withDims_of_legal hd _).trans (s.withPlane_of_legal hp _)

theorem exec_frot_of_dims_illegal {s : State} (hd : ¬ s.DimsLegal) (p : Nat) (steps : Int) :
    exec (.frot p steps) s = .next (s.raise .dim) := s.withDims_of_illegal hd _

theorem exec_frot_of_plane_illegal {s : State} {p : Nat} (hd : s.DimsLegal) (hp : 24 ≤ p) (steps : Int) :
    exec (.frot p steps) s = .next (s.raise .plane) :=
  (s.withDims_of_legal hd _).trans (s.withPlane_of_illegal hp.not_gt _)

theorem exec_frotk_of_legal {s : State} {p : Nat} (hd : s.DimsLegal) (hp : p < 24) (dir : Dir) :
    exec (.frotk p dir) s = .next (s.rotatePlanes [p] (s.planeSteps · dir)).complete := by
  rw [← s.rotatePlane_eq_rotatePlanes p (s.planeSteps · dir)]
  exact (s.withDims_of_legal hd _).trans (s.withPlane_of_legal hp _)

theorem exec_frotk_of_dims_illegal {s : State} (hd : ¬ s.DimsLegal) (p : Nat) (dir : Dir) :
    exec (.frotk p dir) s = .next (s.raise .dim) := s.withDims_of_illegal hd _

theorem exec_frotk_of_plane_illegal {s : State} {p : Nat} (hd : s.DimsLegal) (hp : 24 ≤ p) (dir : Dir) :
    exec (.frotk p dir) s = .next (s.raise .plane) :=
  (s.withDims_of_legal hd _).trans (s.withPlane_of_illegal hp.not_gt _)

theorem exec_frota_of_legal {s : State} (hd : s.DimsLegal) (dir : Dir) :
    exec (.frota dir) s = .next (s.rotatePlanes planes (s.planeSteps · dir)).complete := by
  rw [← s.rotateAll_eq_rotatePlanes]
  exact s.withDims_of_legal hd _

theorem exec_frota_of_illegal {s : State} (hd : ¬ s.DimsLegal) (dir : Dir) :
    exec (.frota dir) s = .next (s.raise .dim) := s.withDims_of_illegal hd _

/-- Settles O48: one plane rotated by the amount of the command word. -/
theorem frotRotatesOnePlane : Obligations.FrotRotatesOnePlane := by
  refine ⟨fun _ _ => decode_frot_word, fun s p steps hinv => ⟨fun hd => exec_frot_of_dims_illegal hd p steps,
    fun hd hp => exec_frot_of_plane_illegal hd hp steps, fun hd hp => ?_⟩⟩
  have hexec := exec_frot_of_legal hd hp steps
  exact ⟨_, hexec, rfl, fun y x => (hinv.hasWindow hd).rotatePlanes_pln _ List.mem_cons_self,
    fun a ha => (altersOnly_of_exec hexec).cell a fun hcell => ha hcell.2⟩

/-! ### Undoing a rotation by the keys -/

/-- The step in a direction, as the rule states it. -/
theorem State.planeSteps_eq (s : State) (p : Nat) (dir : Dir) :
    s.planeSteps p dir
      = if dir = .fwd then (fstep s.fk1.bits s.fk2.bits p : Int) else -(fstep s.fk1.bits s.fk2.bits p : Int) := by
  cases dir <;> rfl

/-- In the other direction every plane turns by the negative. -/
theorem State.planeSteps_opposite (s : State) (dir : Dir) :
    (s.planeSteps · dir.opposite) = -(s.planeSteps · dir) := funext fun _ => dir.signed_opposite _

theorem State.planeSteps_rotatePlanes (s : State) (ps : List Nat) (amount : Nat → Int) :
    (s.rotatePlanes ps amount).complete.planeSteps = s.planeSteps := rfl

theorem State.rotatePlanes_complete (s : State) (ps : List Nat) (amount : Nat → Int) :
    s.complete.rotatePlanes ps amount = (s.rotatePlanes ps amount).complete := rfl

/-- Rotating by the keys in the other direction restores the memory (`43_bitplane_rotator.md` R156, R157). -/
theorem State.Inv.keyRotation_undone {s t : State} (hinv : s.Inv) (hd : s.DimsLegal) {ps : List Nat}
    (hps : ∀ p ∈ ps, p < 24) {dir : Dir} (ht : t = (s.rotatePlanes ps (s.planeSteps · dir)).complete) :
    (t.rotatePlanes ps (t.planeSteps · dir.opposite)).mem = s.mem := by
  rw [State.planeSteps_opposite, ht, State.planeSteps_rotatePlanes, State.rotatePlanes_complete, State.complete_mem]
  exact hinv.rotatePlanes_undone hd hps _

/-- Settles O49: one plane rotated by its step, and back. -/
theorem frotkRotatesByTheKeyStep : Obligations.FrotkRotatesByTheKeyStep := by
  refine ⟨fun p hp => ?_, fun s p dir hinv => ⟨fun hd => exec_frotk_of_dims_illegal hd p dir,
    fun hd hp => exec_frotk_of_plane_illegal hd hp dir, fun hd hp => ?_⟩⟩
  · exact ⟨by simpa [Dir.bit] using decode_frotk_word hp .fwd, by simpa [Dir.bit] using decode_frotk_word hp .inv⟩
  have hexec := exec_frotk_of_legal hd hp dir
  have hps : ∀ q ∈ [p], q < 24 := fun _ hq => List.mem_singleton.1 hq ▸ hp
  refine ⟨_, hexec, rfl, fun y x hy hx => ?_, fun a ha => (altersOnly_of_exec hexec).cell a fun hcell => ha hcell.2,
    _, exec_frotk_of_legal (s := (s.rotatePlanes [p] (s.planeSteps · dir)).complete) hd hp dir.opposite,
    hinv.keyRotation_undone hd hps rfl⟩
  rw [← s.planeSteps_eq]
  exact (hinv.hasWindow hd).rotatePlanes_pln _ List.mem_cons_self hy hx

/-! ### FROTA as FROTK on the planes in turn -/

/-- FROTK on different planes, one after the other. -/
theorem runCommands_frotk {s : State} {h w : Nat} (hs : s.HasWindow h w) (hd : s.DimsLegal) (dir : Dir)
    {ps : List Nat} (hne : ps ≠ []) (hps : ∀ p ∈ ps, p < 24) (hnodup : ps.Nodup) :
    runCommands (ps.map fun p => .frotk p dir) s = .next (s.rotatePlanes ps (s.planeSteps · dir)).complete := by
  induction ps generalizing s with
  | nil => exact absurd rfl hne
  | cons p ps ih =>
    obtain ⟨hp, hps⟩ := List.forall_mem_cons.1 hps
    obtain ⟨hnew, hnodup⟩ := List.nodup_cons.1 hnodup
    rw [List.map_cons, runCommands_cons_of_next (exec_frotk_of_legal hd hp dir)]
    by_cases hlast : ps = []
    · rw [hlast]
      rfl
    · have hd' : (s.rotatePlanes [p] (s.planeSteps · dir)).complete.DimsLegal := hd
      rw [ih (hs.rotatePlanes _ _).complete hd' hlast hps hnodup, State.planeSteps_rotatePlanes,
        State.rotatePlanes_complete, State.complete_complete, ← hs.rotatePlanes_cons hnew]

/-- Settles O50: all planes rotated at once, which is one after the other in any order, and back. -/
theorem frotaRotatesEveryPlane : Obligations.FrotaRotatesEveryPlane := by
  refine ⟨rfl, rfl, fun s dir hinv => ⟨fun hd => exec_frota_of_illegal hd dir, fun hd => ?_⟩⟩
  have hs := hinv.hasWindow hd
  have hexec := exec_frota_of_legal hd dir
  refine ⟨fun order horder => ?_, _, hexec, rfl, fun p y x hp hy hx => ?_, (altersOnly_of_exec hexec).cell,
    _, exec_frota_of_legal (s := (s.rotatePlanes planes (s.planeSteps · dir)).complete) hd dir.opposite,
    hinv.keyRotation_undone hd (fun _ => mem_planes.1) rfl⟩
  · have hmem : ∀ p, p ∈ planes ↔ p ∈ order := fun p => horder.symm.mem_iff
    have hps : ∀ p ∈ order, p < 24 := fun p hp => mem_planes.1 ((hmem p).2 hp)
    have hne : order ≠ [] := List.ne_nil_of_mem ((hmem 0).1 (mem_planes.2 (by omega)))
    have hnodup : order.Nodup := horder.nodup_iff.2 List.nodup_range
    rw [hexec, hinv.rotatePlanes_congr_mem hd hmem hps, runCommands_frotk hs hd dir hne hps hnodup]
  · rw [← s.planeSteps_eq]
    exact hs.rotatePlanes_pln _ (mem_planes.2 hp) hy hx

/-! ### The key bits FROTA reads -/

/-- The steps of two pairs of keys that agree on the bits of `43_bitplane_rotator.md` R153. -/
theorem fstep_congr_bit {a a' b b' : Key} {idx : Nat} (hidx : idx < 24)
    (ha : a'.bit (idx + idx / 3) = a.bit (idx + idx / 3)) (hb : b'.bit (idx + idx / 3) = b.bit (idx + idx / 3)) :
    fstep a'.bits b'.bits idx = fstep a.bits b.bits idx := by
  have hbit : ∀ (k : Key) (i : Nat), bitAt k.bits i = k.bit i := fun _ _ => rfl
  rw [fstep_of_length a'.length_bits b'.length_bits hidx, fstep_of_length a.length_bits b.length_bits hidx, hbit, hbit,
    hbit, hbit, ha, hb]

/-- Settles O51: the same checks, and the same step for every plane. -/
theorem frotaIgnoresTheOtherKeyBits : Obligations.FrotaIgnoresTheOtherKeyBits := by
  intro s f1 f2 dir hbits
  by_cases hd : s.DimsLegal
  · have hd' : State.DimsLegal { s with fk1 := f1, fk2 := f2 } := hd
    refine ⟨_, _, exec_frota_of_legal hd dir, exec_frota_of_legal hd' dir, ?_⟩
    have hsteps : ∀ p ∈ planes, State.planeSteps { s with fk1 := f1, fk2 := f2 } p dir = s.planeSteps p dir :=
      fun p hp => by
        obtain ⟨h1, h2⟩ := hbits p (mem_planes.1 hp)
        exact congrArg (fun n : Nat => dir.signed n) (fstep_congr_bit (mem_planes.1 hp) h1 h2)
    rw [State.rotatePlanes_congr _ hsteps]
    rfl
  · have hd' : ¬ State.DimsLegal { s with fk1 := f1, fk2 := f2 } := hd
    exact ⟨_, _, exec_frota_of_illegal hd dir, exec_frota_of_illegal hd' dir, rfl⟩

end Machine

end Sys2Proof
end

section
/-! PROOFS. The plane_reorderer (`44_plane_reorderer.md` R170 to R172): PSHUF reverses each group of eight planes, and
reversing twice is the identity. -/

namespace Sys2Proof.Machine

/-- PSHUF twice (`44_plane_reorderer.md` R172), bit by bit. -/
theorem State.HasWindow.shuffle_shuffle_pln {h w : Nat} {s : State} (hs : s.HasWindow h w) {p y x : Nat} (hp : p < 24)
    (hy : y < h) (hx : x < w) : s.shuffle.shuffle.pln p y x = s.pln p y x := by
  have hc : p / 8 < 3 := by omega
  have hb : p % 8 < 8 := Nat.mod_lt p (by omega)
  have hb' : 7 - p % 8 < 8 := by omega
  have hback : 7 - (7 - p % 8) = p % 8 := by omega
  rw [← planeIndex_div_mod p, hs.shuffle.shuffle_pln hc hb hy hx, hs.shuffle_pln hc hb' hy hx, hback]

/-- PSHUF twice restores the memory, byte by byte: the window by its bits, the other cells because both keep them. -/
theorem State.Inv.shuffle_shuffle_mem {s : State} (hinv : s.Inv) (hd : s.DimsLegal) :
    s.shuffle.shuffle.mem = s.mem := by
  have hreach : s.DataReach s.shuffle.shuffle := ((State.DataReach.refl hinv.storage).shuffle hd).shuffle hd
  have honly : s.AltersOnly { cell := s.InPlnWindow } s.shuffle.shuffle :=
    ((State.AltersOnly.refl _ s).shuffle fun _ => id).shuffle fun _ => id
  exact hinv.storage.mem_eq_of_samePlnWindow hreach.storage rfl hd
    (fun _ _ _ => (hinv.hasWindow hd).shuffle_shuffle_pln) honly.cell

theorem exec_pshuf_of_illegal {s : State} (hd : ¬ s.DimsLegal) : exec .pshuf s = .next (s.raise .dim) :=
  s.withDims_of_illegal hd _

/-- PSHUF then PSHUF. -/
theorem runCommands_pshuf_pshuf {s : State} (hd : s.DimsLegal) :
    runCommands [.pshuf, .pshuf] s = .next s.shuffle.shuffle.complete := by
  have hd' : s.shuffle.complete.DimsLegal := hd
  rw [runCommands_cons_of_next (exec_pshuf_of_legal hd), runCommands_cons_of_next (exec_pshuf_of_legal hd'),
    State.shuffle_complete, State.complete_complete, runCommands]

/-- Settles O52: plane k of a group takes plane 7 - k of it, and the column of PSHUF is the window of PLN. -/
theorem pshufReversesGroups : Obligations.PshufReversesGroups := by
  refine ⟨rfl, fun s hinv => ⟨exec_pshuf_of_illegal, fun hd => ?_⟩⟩
  have hexec := exec_pshuf_of_legal hd
  exact ⟨_, hexec, rfl, fun _ _ _ _ => (hinv.hasWindow hd).shuffle_pln, (altersOnly_of_exec hexec).cell⟩

/-- Settles O53: the second reversal of each group undoes the first. -/
theorem pshufTwiceIsIdentity : Obligations.PshufTwiceIsIdentity :=
  fun _ hinv hd => ⟨_, runCommands_pshuf_pshuf hd, hinv.shuffle_shuffle_mem hd⟩

end Sys2Proof.Machine
end

section
/-! PROOFS. The system commands NOP and ERRCLR (`45_pipeline_system.md` R175, R176): what a write of their words to CMD
does, and the state each leaves. -/

namespace Sys2Proof.Machine

theorem exec_nop (s : State) : exec .nop s = .next s.complete := rfl

theorem exec_errclr (s : State) : exec .errclr s = .next s.clearError.complete := rfl

/-! ### The write of CMD (`10_state.md` R22) -/

theorem State.writeCmd_of_discarded {s : State} {w : Word} (herr : s.status.err = true) (hw : w ≠ errclrWord) :
    s.writeCmd w = s := if_pos ⟨herr, hw⟩

theorem State.writeCmd_errclrWord (s : State) : s.writeCmd errclrWord = s.accept errclrWord :=
  if_neg fun h => h.2 rfl

/-- An accepted command runs in the next step, when no turn is to come before the Engine's. -/
theorem step_accept_of_decode {s : State} {w : Word} {i : Instr} (hturn : s.agenda = []) (hdec : decode w = .ok i) :
    step (s.accept w) = exec i (s.accept w) := by
  rw [step_of_no_turn (s := s.accept w) hturn, State.settle_of_busy (s := s.accept w) rfl, State.accept_pend,
    State.engineStep_of_decode hdec]

/-- Settles O28: NOP only completes, and its word is not ERRCLR's. -/
theorem nopCompletes : Obligations.NopCompletes := by
  have hdec : decode 0x00000000 = .ok .nop := rfl
  have hword : (0x00000000 : Word) ≠ errclrWord := by decide
  refine ⟨hdec, exec_nop, fun s herr => s.writeCmd_of_discarded herr hword, fun p c => ?_⟩
  have hstep : step ((State.powerUp p c).accept 0x00000000) = .next ((State.powerUp p c).accept 0x00000000).complete :=
    step_accept_of_decode rfl hdec
  have hstatus : Status.word { busy := false, done := true, err := false, errcode := 0 } = 0x00000002 := by decide
  exact ⟨_, hstep, hstatus⟩

/-- Settles O29: any other word is discarded, and the ERRCLR word is accepted whatever ERR is. -/
theorem errclrClearsTheError : Obligations.ErrclrClearsTheError := by
  refine ⟨decode_errclrWord, exec_errclr, fun s w herr => ⟨fun hchanged => ?_, s.writeCmd_errclrWord⟩⟩
  by_contra hw
  exact hchanged (State.writeCmd_of_discarded herr hw)

end Sys2Proof.Machine
end

section
/-! PROOFS. The pipeline commands ENC and DEC (`45_pipeline_system.md` R177 to R180): each is a part on the planes and a
scrambling. The part of DEC undoes the part of ENC bit by bit, so USCR finds the image SCR left. -/

namespace Sys2Proof.Machine

/-! ### The parts of the pipelines that work on the planes -/

/-- ENC after its SCR: DECOMP, FROTA F, PSHUF, RECOMP. -/
def State.encodePlanes (s : State) : State := ((s.decompose.rotateAll .fwd).shuffle).recompose

/-- DEC before its USCR: DECOMP, PSHUF, FROTA I, RECOMP. -/
def State.decodePlanes (s : State) : State := ((s.decompose.shuffle).rotateAll .inv).recompose

theorem State.encodeImage_eq (s : State) : s.encodeImage = s.scramble.encodePlanes := rfl

theorem State.decodeImage_eq (s : State) : s.decodeImage = s.decodePlanes.unscramble := rfl

/-! Both parts write memory only, so ENC leaves the key registers and the schedule of its SCR. -/

theorem State.decodePlanes_eq_with (s : State) : ∃ m, s.decodePlanes = { s with mem := m } := ⟨_, rfl⟩

@[simp] theorem State.decodePlanes_params (s : State) : s.decodePlanes.params = s.params := by simp [State.decodePlanes]

@[simp] theorem State.decodePlanes_height (s : State) : s.decodePlanes.height = s.height := by simp [State.decodePlanes]

@[simp] theorem State.decodePlanes_width (s : State) : s.decodePlanes.width = s.width := by simp [State.decodePlanes]

@[simp] theorem State.decodePlanes_roundCount (s : State) : s.decodePlanes.roundCount = s.roundCount := by
  simp [State.decodePlanes]

@[simp] theorem State.decodePlanes_rmax (s : State) : s.decodePlanes.rmax = s.rmax := by simp [State.decodePlanes]

@[simp] theorem State.decodePlanes_pair (s : State) (r : Nat) : s.decodePlanes.pair r = s.pair r := by
  simp [State.decodePlanes]

@[simp] theorem State.encodeImage_status (s : State) : s.encodeImage.status = s.status := by
  simp [State.encodeImage, State.scramble_eq]

@[simp] theorem State.encodeImage_k1 (s : State) : s.encodeImage.k1 = s.scramble.k1 := by simp [State.encodeImage]

@[simp] theorem State.encodeImage_k2 (s : State) : s.encodeImage.k2 = s.scramble.k2 := by simp [State.encodeImage]

@[simp] theorem State.encodeImage_fk1 (s : State) : s.encodeImage.fk1 = s.scramble.fk1 := by simp [State.encodeImage]

@[simp] theorem State.encodeImage_fk2 (s : State) : s.encodeImage.fk2 = s.scramble.fk2 := by simp [State.encodeImage]

@[simp] theorem State.encodeImage_pair (s : State) (r : Nat) : s.encodeImage.pair r = s.scramble.pair r := by
  simp [State.encodeImage]

/-! SCR ends with KFIN (`41_pixel_permutation.md` R123). -/

theorem State.scramble_fk1 (s : State) : s.scramble.fk1 = s.scramble.k1 := rfl

theorem State.scramble_fk2 (s : State) : s.scramble.fk2 = s.scramble.k2 := rfl

/-! No data operation reads STATUS. -/

theorem State.rotateAll_complete (s : State) (dir : Dir) : s.complete.rotateAll dir = (s.rotateAll dir).complete := rfl

theorem State.encodePlanes_complete (s : State) : s.complete.encodePlanes = s.encodePlanes.complete := rfl

theorem State.unscramble_complete (s : State) : s.complete.unscramble = s.unscramble.complete := by
  rw [State.unscramble, List.foldl_hom State.complete State.unscrambleRound_complete]
  rfl

/-! ### The checks (`45_pipeline_system.md` R177, R178) -/

/-- The image size and its bounds decide whether it is legal. -/
theorem State.DimsLegal.congr {s t : State} (h : s.DimsLegal) (hparams : t.params = s.params)
    (hheight : t.height = s.height) (hwidth : t.width = s.width) : t.DimsLegal := by
  rw [State.DimsLegal, hheight, hwidth, hparams]
  exact h

/-- The round count and the number of slots decide whether it is legal. -/
theorem State.RoundsLegal.congr {s t : State} (h : s.RoundsLegal) (hcount : t.roundCount = s.roundCount)
    (hrmax : t.rmax = s.rmax) : t.RoundsLegal := by
  rw [State.RoundsLegal, hcount, hrmax]
  exact h

theorem State.decodePlanes_dimsLegal {s : State} (hd : s.DimsLegal) : s.decodePlanes.complete.DimsLegal :=
  hd.congr s.decodePlanes_params s.decodePlanes_height s.decodePlanes_width

theorem State.decodePlanes_roundsLegal {s : State} (hr : s.RoundsLegal) : s.decodePlanes.complete.RoundsLegal :=
  hr.congr s.decodePlanes_roundCount s.decodePlanes_rmax

theorem State.Inv.scramble_dimsLegal {s : State} (hinv : s.Inv) (hd : s.DimsLegal) : s.scramble.DimsLegal :=
  ((State.DataReach.refl hinv.storage).scramble hd).dims hd

theorem State.scramble_roundsLegal {s : State} (hd : s.DimsLegal) (hr : s.RoundsLegal) : s.scramble.RoundsLegal := by
  have halters := altersOnly_of_exec (exec_scr_of_legal hd hr)
  exact hr.congr halters.roundCount halters.rmax

/-! ### The outcomes of ENC and DEC -/

theorem exec_enc_of_legal {s : State} (hd : s.DimsLegal) (hr : s.RoundsLegal) :
    exec .enc s = .next s.encodeImage.complete := (s.withDims_of_legal hd _).trans (s.withRounds_of_legal hr _)

theorem exec_enc_of_dims_illegal {s : State} (hd : ¬ s.DimsLegal) : exec .enc s = .next (s.raise .dim) :=
  s.withDims_of_illegal hd _

theorem exec_enc_of_rounds_illegal {s : State} (hd : s.DimsLegal) (hr : ¬ s.RoundsLegal) :
    exec .enc s = .next (s.raise .rounds) := (s.withDims_of_legal hd _).trans (s.withRounds_of_illegal hr _)

theorem exec_dec_of_legal {s : State} (hd : s.DimsLegal) (hr : s.RoundsLegal) :
    exec .dec s = .next s.decodeImage.complete := (s.withDims_of_legal hd _).trans (s.withRounds_of_legal hr _)

theorem exec_dec_of_dims_illegal {s : State} (hd : ¬ s.DimsLegal) : exec .dec s = .next (s.raise .dim) :=
  s.withDims_of_illegal hd _

theorem exec_dec_of_rounds_illegal {s : State} (hd : s.DimsLegal) (hr : ¬ s.RoundsLegal) :
    exec .dec s = .next (s.raise .rounds) := (s.withDims_of_legal hd _).trans (s.withRounds_of_illegal hr _)

/-- FROTA as the step `rotateAll` that the pipelines are made of. -/
theorem exec_frota_eq_rotateAll {s : State} (hd : s.DimsLegal) (dir : Dir) :
    exec (.frota dir) s = .next (s.rotateAll dir).complete := exec_frota_of_legal hd dir

/-! ### The pipelines by hand (`45_pipeline_system.md` R177, R178, R180) -/

theorem runCommands_encodePlanes {s : State} (hd : s.DimsLegal) :
    runCommands [.decomp, .frota .fwd, .pshuf, .recomp] s = .next s.encodePlanes.complete := by
  have hrotate : s.decompose.complete.DimsLegal := hd
  have hshuffle : (s.decompose.rotateAll .fwd).complete.DimsLegal := hd
  have hrecomp : (s.decompose.rotateAll .fwd).shuffle.complete.DimsLegal := hd
  rw [runCommands_cons_of_next (exec_decomp_of_legal hd),
    runCommands_cons_of_next (exec_frota_eq_rotateAll hrotate .fwd), State.rotateAll_complete, State.complete_complete,
    runCommands_cons_of_next (exec_pshuf_of_legal hshuffle), State.shuffle_complete, State.complete_complete,
    runCommands_cons_of_next (exec_recomp_of_legal hrecomp), State.recompose_complete, State.complete_complete,
    runCommands, State.encodePlanes]

theorem runCommands_decodePlanes {s : State} (hd : s.DimsLegal) :
    runCommands [.decomp, .pshuf, .frota .inv, .recomp] s = .next s.decodePlanes.complete := by
  have hshuffle : s.decompose.complete.DimsLegal := hd
  have hrotate : s.decompose.shuffle.complete.DimsLegal := hd
  have hrecomp : (s.decompose.shuffle.rotateAll .inv).complete.DimsLegal := hd
  rw [runCommands_cons_of_next (exec_decomp_of_legal hd),
    runCommands_cons_of_next (exec_pshuf_of_legal hshuffle), State.shuffle_complete, State.complete_complete,
    runCommands_cons_of_next (exec_frota_eq_rotateAll hrotate .inv), State.rotateAll_complete, State.complete_complete,
    runCommands_cons_of_next (exec_recomp_of_legal hrecomp), State.recompose_complete, State.complete_complete,
    runCommands, State.decodePlanes]

/-- Whatever commands carry out SCR, the rest of ENC may follow them. -/
theorem runCommands_encode_of_scramble {s : State} (hd : s.scramble.DimsLegal) {first : List Instr}
    (hfirst : runCommands first s = .next s.scramble.complete) :
    runCommands (first ++ [.decomp, .frota .fwd, .pshuf, .recomp]) s = .next s.encodeImage.complete := by
  have hd' : s.scramble.complete.DimsLegal := hd
  rw [runCommands_append_of_next hfirst, runCommands_encodePlanes hd', State.encodePlanes_complete,
    State.complete_complete, State.encodeImage_eq]

/-- Whatever commands carry out USCR may follow the first part of DEC. -/
theorem runCommands_decode_of_unscramble {s : State} (hd : s.DimsLegal) {rest : List Instr}
    (hrest : runCommands rest s.decodePlanes.complete = .next s.decodePlanes.complete.unscramble.complete) :
    runCommands ([.decomp, .pshuf, .frota .inv, .recomp] ++ rest) s = .next s.decodeImage.complete := by
  rw [runCommands_append_of_next (runCommands_decodePlanes hd), hrest, State.unscramble_complete,
    State.complete_complete, State.decodeImage_eq]

/-- A single command as a list of commands. -/
theorem runCommands_singleton {i : Instr} {s t : State} (h : exec i s = .next t) : runCommands [i] s = .next t :=
  runCommands_cons_of_next h []

/-- Settles O57: SCR by hand before the rest of ENC, and USCR by hand after the first part of DEC. -/
theorem compositesArePrimitivesInOrder : Obligations.CompositesArePrimitivesInOrder := by
  intro s hinv hd hr
  have hunscramble := runCommands_unscrambleCommands (State.decodePlanes_dimsLegal hd)
    (State.decodePlanes_roundsLegal hr)
  rw [State.complete_roundCount, State.decodePlanes_roundCount] at hunscramble
  rw [exec_enc_of_legal hd hr, exec_dec_of_legal hd hr]
  exact ⟨(runCommands_encode_of_scramble (hinv.scramble_dimsLegal hd) (runCommands_scrambleCommands hd hr)).symm,
    (runCommands_decode_of_unscramble hd hunscramble).symm⟩

/-! ### The image the two parts leave, bit by bit -/

/-- Rotating the border of a plane whose cells all hold one bit. -/
theorem frot_of_forall_eq {g : Nat → Nat → Bool} {h w : Nat} {v : Bool} (hg : ∀ y x, y < h → x < w → g y x = v)
    (steps : Int) {y x : Nat} (hy : y < h) (hx : x < w) : frot g h w steps y x = v :=
  (frot_congr hg steps hy hx).trans (frot_eq_frotPlace _ h w steps y x)

/-- Bit b of channel c, as a plane. -/
def State.imgBit (s : State) (c b y x : Nat) : Bool := (s.img c y x).getLsbD b

namespace State.HasWindow

variable {h w : Nat} {s t : State} {c b p y x : Nat}

theorem rotateAll (hs : s.HasWindow h w) (dir : Dir) : (s.rotateAll dir).HasWindow h w := hs.setPlnWindow _ _

theorem rotateAll_pln (hs : s.HasWindow h w) (dir : Dir) (hp : p < 24) (hy : y < h) (hx : x < w) :
    (s.rotateAll dir).pln p y x = frot (s.pln p) h w (s.planeSteps p dir) y x :=
  hs.rotatePlanes_pln _ (mem_planes.2 hp) hy hx

theorem scramble (hs : s.HasWindow h w) : s.scramble.HasWindow h w := (hs.scrambleRounds _).finalPair

theorem encodePlanes (hs : s.HasWindow h w) : s.encodePlanes.HasWindow h w :=
  (hs.decompose.rotateAll .fwd).shuffle.recompose

theorem decodePlanes (hs : s.HasWindow h w) : s.decodePlanes.HasWindow h w :=
  (hs.decompose.shuffle.rotateAll .inv).recompose

/-- RECOMP leaves the planes it joined. -/
theorem recompose_pln (hs : s.HasWindow h w) (p y x : Nat) : s.recompose.pln p y x = s.pln p y x :=
  State.setImgWindow_pln (hs.height.trans_le hs.heightLe) (hs.width.trans_le hs.widthLe) _ p y x

/-- The samples ENC leaves are the sums of the plane bits it leaves. -/
theorem encodePlanes_img_toNat (hs : s.HasWindow h w) (hc : c < 3) (hy : y < h) (hx : x < w) :
    (s.encodePlanes.img c y x).toNat
      = ∑ b ∈ Finset.range 8, (s.encodePlanes.pln (planeIndex c b) y x).toNat * 2 ^ b := by
  have hplanes := (hs.decompose.rotateAll .fwd).shuffle
  simp only [State.encodePlanes, hplanes.recompose_pln]
  rw [hplanes.recompose_img hc hy hx, toNat_joinBits]

/-- Bit b of a sample comes from bit 7-b of the channel, rotated by the step of that bit's plane. -/
theorem encodePlanes_img_getLsbD (hs : s.HasWindow h w) (hc : c < 3) (hb : b < 8) (hy : y < h) (hx : x < w) :
    (s.encodePlanes.img c y x).getLsbD b
      = frot (s.imgBit c (7 - b)) h w (s.planeSteps (planeIndex c (7 - b)) .fwd) y x := by
  have hb' : 7 - b < 8 := by omega
  have hrotated := hs.decompose.rotateAll .fwd
  calc (s.encodePlanes.img c y x).getLsbD b
    _ = (s.decompose.rotateAll .fwd).shuffle.pln (planeIndex c b) y x :=
      hrotated.shuffle.recompose_img_getLsbD hc hb hy hx
    _ = (s.decompose.rotateAll .fwd).pln (planeIndex c (7 - b)) y x := hrotated.shuffle_pln hc hb hy hx
    _ = frot (s.decompose.pln (planeIndex c (7 - b))) h w (s.planeSteps (planeIndex c (7 - b)) .fwd) y x :=
      hs.decompose.rotateAll_pln .fwd (planeIndex_lt hc hb') hy hx
    _ = frot (s.imgBit c (7 - b)) h w (s.planeSteps (planeIndex c (7 - b)) .fwd) y x :=
      frot_congr (fun _ _ hy' hx' => hs.decompose_pln hc hb' hy' hx') _ hy hx

/-- Bit b of a sample comes from bit 7-b of the channel, rotated back by the step of plane b. -/
theorem decodePlanes_img_getLsbD (hs : s.HasWindow h w) (hc : c < 3) (hb : b < 8) (hy : y < h) (hx : x < w) :
    (s.decodePlanes.img c y x).getLsbD b
      = frot (s.imgBit c (7 - b)) h w (s.planeSteps (planeIndex c b) .inv) y x := by
  have hb' : 7 - b < 8 := by omega
  have hshuffled := hs.decompose.shuffle
  calc (s.decodePlanes.img c y x).getLsbD b
    _ = (s.decompose.shuffle.rotateAll .inv).pln (planeIndex c b) y x :=
      (hshuffled.rotateAll .inv).recompose_img_getLsbD hc hb hy hx
    _ = frot (s.decompose.shuffle.pln (planeIndex c b)) h w (s.planeSteps (planeIndex c b) .inv) y x :=
      hshuffled.rotateAll_pln .inv (planeIndex_lt hc hb) hy hx
    _ = frot (s.imgBit c (7 - b)) h w (s.planeSteps (planeIndex c b) .inv) y x :=
      frot_congr (fun _ _ hy' hx' => (hs.decompose.shuffle_pln hc hb hy' hx').trans (hs.decompose_pln hc hb' hy' hx'))
        _ hy hx

/-- An all-zero image has only zero bits to rotate. -/
theorem encodePlanes_img_eq_zero (hs : s.HasWindow h w) (hzero : ∀ y x, y < h → x < w → s.img c y x = 0) (hc : c < 3)
    (hy : y < h) (hx : x < w) : s.encodePlanes.img c y x = 0 := by
  refine BitVec.eq_of_getLsbD_eq fun b hb => ?_
  have hbits : ∀ y x, y < h → x < w → s.imgBit c (7 - b) y x = false := fun y x hy hx => by
    rw [State.imgBit, hzero y x hy hx]
    exact BitVec.getLsbD_zero
  rw [hs.encodePlanes_img_getLsbD hc hb hy hx, frot_of_forall_eq hbits _ hy hx]
  exact BitVec.getLsbD_zero.symm

/-- The first part of DEC undoes the second part of ENC, given the image and the final keys
(`45_pipeline_system.md` R179). -/
theorem decodePlanes_img_of_encoded (hs : s.HasWindow h w) (ht : t.HasWindow h w)
    (himg : SameImgWindow s.encodePlanes t) (hfk1 : t.fk1 = s.fk1) (hfk2 : t.fk2 = s.fk2) (hc : c < 3) (hy : y < h)
    (hx : x < w) : t.decodePlanes.img c y x = s.img c y x := by
  refine BitVec.eq_of_getLsbD_eq fun b hb => ?_
  have hb' : 7 - b < 8 := by omega
  have hback : 7 - (7 - b) = b := by omega
  have hsteps : t.planeSteps (planeIndex c b) .inv = -s.planeSteps (planeIndex c b) .fwd := by
    rw [State.planeSteps_eq, State.planeSteps_eq, hfk1, hfk2]
    rfl
  have hbits : ∀ y x, y < h → x < w →
      t.imgBit c (7 - b) y x = frot (s.imgBit c b) h w (s.planeSteps (planeIndex c b) .fwd) y x :=
    fun y x hy hx => by
      rw [State.imgBit, himg c y x hc (hy.trans_eq hs.encodePlanes.height.symm)
        (hx.trans_eq hs.encodePlanes.width.symm), hs.encodePlanes_img_getLsbD hc hb' hy hx, hback]
  calc (t.decodePlanes.img c y x).getLsbD b
    _ = frot (t.imgBit c (7 - b)) h w (-s.planeSteps (planeIndex c b) .fwd) y x :=
      hsteps ▸ ht.decodePlanes_img_getLsbD hc hb hy hx
    _ = frot (frot (s.imgBit c b) h w (s.planeSteps (planeIndex c b) .fwd)) h w
          (-s.planeSteps (planeIndex c b) .fwd) y x := frot_congr hbits _ hy hx
    _ = s.imgBit c b y x := frot_frot_neg _ h w _ y x

/-- SCR only moves samples, so it leaves an all-zero image all-zero. -/
theorem scramble_img_eq_zero (hs : s.HasWindow h w)
    (hzero : ∀ c y x, c < 3 → y < h → x < w → s.img c y x = 0) (hc : c < 3) (hy : y < h) (hx : x < w) :
    s.scramble.img c y x = 0 := by
  obtain ⟨place, hplace⟩ := hs.scramble_permuted
  have hmove := hplace.window c hc (⟨y, hy⟩, ⟨x, hx⟩)
  exact hmove.trans (hzero c _ _ hc (Fin.isLt _) (Fin.isLt _))

/-! USCR on two states with the same image: PLN and the keys do not matter. -/

theorem unscrambleRound_rearranged (hs : s.HasWindow h w) (r : Nat) :
    Memory.Rearranged ((rowPlace (s.pair r).k1 h w .inv).trans (colPlace (s.pair r).k2 h w .inv)) s.mem
      (s.unscrambleRound r).mem :=
  ((hs.loadPair r).colPass_rearranged .inv).trans (((hs.loadPair r).colPass .inv).rowPass_rearranged .inv)

theorem unscrambleRounds (hs : s.HasWindow h w) (n : Nat) : (s.unscrambleRounds n).HasWindow h w :=
  List.foldlRecOn _ _ hs fun _ hv r _ => hv.unscrambleRound r

/-- A round takes the sample of a position from the same place in both. -/
theorem unscrambleRound_sameImgWindow (hs : s.HasWindow h w) (ht : t.HasWindow h w) (himg : SameImgWindow s t)
    {r : Nat} (hpair : t.pair r = s.pair r) : SameImgWindow (s.unscrambleRound r) (t.unscrambleRound r) := by
  have hmove := hs.unscrambleRound_rearranged r
  have hmove' := ht.unscrambleRound_rearranged r
  rw [hpair] at hmove'
  obtain ⟨rfl, rfl, -⟩ := hs
  intro c y x hc hy hx
  exact (hmove'.window c hc (⟨y, hy⟩, ⟨x, hx⟩)).trans
    ((himg c _ _ hc (Fin.isLt _) (Fin.isLt _)).trans (hmove.window c hc (⟨y, hy⟩, ⟨x, hx⟩)).symm)

theorem unscrambleRounds_sameImgWindow {n : Nat} (hs : s.HasWindow h w) (ht : t.HasWindow h w)
    (himg : SameImgWindow s t) (hpair : ∀ r < n, t.pair r = s.pair r) :
    SameImgWindow (s.unscrambleRounds n) (t.unscrambleRounds n) := by
  induction n generalizing s t with
  | zero => exact himg
  | succ n ih =>
    rw [State.unscrambleRounds_succ, State.unscrambleRounds_succ]
    exact ih (hs.unscrambleRound n) (ht.unscrambleRound n)
      (hs.unscrambleRound_sameImgWindow ht himg (hpair n n.lt_succ_self)) fun r hr => hpair r (hr.trans n.lt_succ_self)

end State.HasWindow

/-! ### ENC and DEC as their sequences -/

/-- Settles O54: SCR and the rest of ENC, the key results of SCR, and the planes ENC leaves joined to samples. -/
theorem encIsItsSequence : Obligations.EncIsItsSequence := by
  refine ⟨rfl, fun s hinv => ⟨exec_enc_of_dims_illegal, exec_enc_of_rounds_illegal, fun hd hr => ?_⟩⟩
  have hs := (hinv.hasWindow hd).scramble
  have hexec := exec_enc_of_legal hd hr
  have halters := altersOnly_of_exec hexec
  have hsequence := runCommands_encode_of_scramble (hinv.scramble_dimsLegal hd)
    (runCommands_singleton (exec_scr_of_legal hd hr))
  refine ⟨hexec.trans hsequence.symm, _, hexec, ?_, fun r hlt => ?_, fun r hle => halters.slot r hle.not_gt,
    ?_, ?_, fun c y x hc hy hx => ?_, fun a => exec_read_of_outside hexec, fun hzero c y x hc hy hx => ?_⟩
  · have hstatus : s.encodeImage.complete.status = s.status.complete := by simp
    have hfk1 : s.encodeImage.complete.fk1 = s.encodeImage.complete.k1 := by simp [State.scramble_fk1]
    have hfk2 : s.encodeImage.complete.fk2 = s.encodeImage.complete.k2 := by simp [State.scramble_fk2]
    have hrest := halters.eq_with
    rw [hstatus, hfk1, hfk2] at hrest
    exact hrest
  · rw [State.complete_pair, State.encodeImage_pair]
    exact State.scrambleRounds_pair hlt hr.2
  · rw [State.complete_k1, State.encodeImage_k1]
    exact s.scrambleRounds_k1 _
  · rw [State.complete_k2, State.encodeImage_k2]
    exact s.scrambleRounds_k2 _
  · exact hs.encodePlanes_img_toNat hc hy hx
  · exact hs.encodePlanes_img_eq_zero (fun _ _ => (hinv.hasWindow hd).scramble_img_eq_zero hzero hc) hc hy hx

/-- What USCR leaves on a state that differs in memory only. -/
theorem State.unscramble_eq_with_of_mem {s u : State} (h : 1 ≤ s.roundCount) (hu : ∃ m, u = { s with mem := m }) :
    u.unscramble = { s with mem := u.unscramble.mem, k1 := (s.pair 0).k1, k2 := (s.pair 0).k2 } := by
  obtain ⟨m, rfl⟩ := hu
  exact State.unscramble_eq_with h

/-- Settles O55: the first part of DEC and USCR, whose last round loads slot 0. -/
theorem decIsItsSequence : Obligations.DecIsItsSequence := by
  refine ⟨rfl, fun s hinv => ⟨exec_dec_of_dims_illegal, exec_dec_of_rounds_illegal, fun hd hr => ?_⟩⟩
  have hexec := exec_dec_of_legal hd hr
  have hsequence := runCommands_decode_of_unscramble hd (runCommands_singleton
    (exec_uscr_of_legal (State.decodePlanes_dimsLegal hd) (State.decodePlanes_roundsLegal hr)))
  exact ⟨hexec.trans hsequence.symm, _, hexec,
    congrArg State.complete (State.unscramble_eq_with_of_mem hr.1 s.decodePlanes_eq_with),
    fun _ => exec_read_of_outside hexec⟩

/-! ### DEC after ENC (`45_pipeline_system.md` R179) -/

theorem State.AltersOnly.params {ws : WriteSet} {s u : State} (h : s.AltersOnly ws u) : u.params = s.params := by
  obtain ⟨_, _, rfl⟩ := h.rest
  rfl

/-- USCR right after SCR (`41_pixel_permutation.md` R125 (c)), on the data operations. -/
theorem State.Inv.unscramble_scramble_mem {s : State} (hinv : s.Inv) (hd : s.DimsLegal) (hr : s.RoundsLegal) :
    s.scramble.unscramble.mem = s.mem := by
  obtain ⟨_, _, hscr, huscr, hmem, -⟩ := uscrInvertsScr s hinv hd hr
  obtain rfl := Host.Outcome.next.inj ((exec_scr_of_legal hd hr).symm.trans hscr)
  have hd' : s.scramble.complete.DimsLegal := hinv.scramble_dimsLegal hd
  have hr' : s.scramble.complete.RoundsLegal := State.scramble_roundsLegal hd hr
  obtain rfl := Host.Outcome.next.inj ((exec_uscr_of_legal hd' hr').symm.trans huscr)
  rw [State.unscramble_complete] at hmem
  exact hmem

/-- USCR needs only the image and the schedule SCR left: PLN, K1 and K2 may be any. -/
theorem State.Inv.unscramble_of_scrambled {s t : State} (hinv : s.Inv) (hd : s.DimsLegal) (hr : s.RoundsLegal)
    (ht : t.HasWindow s.height s.width) (hcount : t.roundCount = s.roundCount)
    (hpair : ∀ r < s.roundCount, t.pair r = s.scramble.pair r) (himg : SameImgWindow s.scramble t) :
    SameImgWindow s t.unscramble ∧ t.unscramble.k1 = s.k1 ∧ t.unscramble.k2 = s.k2 := by
  have hs := (hinv.hasWindow hd).scramble
  refine ⟨fun c y x hc hy hx => ?_, ?_⟩
  · have hwindow := hs.unscrambleRounds s.roundCount
    have hmem : (s.scramble.unscrambleRounds s.roundCount).mem = s.mem := by
      rw [← (altersOnly_of_exec (exec_scr_of_legal hd hr)).roundCount]
      exact hinv.unscramble_scramble_mem hd hr
    calc t.unscramble.img c y x
      _ = (t.unscrambleRounds s.roundCount).img c y x := by rw [State.unscramble_eq, hcount]
      _ = (s.scramble.unscrambleRounds s.roundCount).img c y x :=
        hs.unscrambleRounds_sameImgWindow ht himg hpair c y x hc (hy.trans_eq hwindow.height.symm)
          (hx.trans_eq hwindow.width.symm)
      _ = s.img c y x := by rw [State.img, State.img, hmem]
  · have hpair0 : t.pair 0 = { k1 := s.k1, k2 := s.k2 } := (hpair 0 hr.1).trans (State.scrambleRounds_pair hr.1 hr.2)
    rw [State.unscramble_eq_with (hcount ▸ hr.1), hpair0]
    exact ⟨rfl, rfl⟩

/-- DEC needs only the image, the schedule and the final keys ENC left. -/
theorem State.Inv.decodeImage_of_encoded {s u : State} (hinv : s.Inv) (hd : s.DimsLegal) (hr : s.RoundsLegal)
    (hu : u.HasWindow s.height s.width) (hcount : u.roundCount = s.roundCount)
    (hpair : ∀ r < s.roundCount, u.pair r = s.scramble.pair r) (hfk1 : u.fk1 = s.scramble.fk1)
    (hfk2 : u.fk2 = s.scramble.fk2) (himg : SameImgWindow s.encodeImage u) :
    SameImgWindow s u.decodeImage ∧ u.decodeImage.k1 = s.k1 ∧ u.decodeImage.k2 = s.k2 := by
  have hs := (hinv.hasWindow hd).scramble
  have hback : SameImgWindow s.scramble u.decodePlanes := fun c y x hc hy hx =>
    hs.decodePlanes_img_of_encoded hu himg hfk1 hfk2 hc (hy.trans_eq hs.height) (hx.trans_eq hs.width)
  have hpair' : ∀ r < s.roundCount, u.decodePlanes.pair r = s.scramble.pair r := fun r hlt =>
    (u.decodePlanes_pair r).trans (hpair r hlt)
  rw [State.decodeImage_eq]
  exact hinv.unscramble_of_scrambled hd hr hu.decodePlanes (u.decodePlanes_roundCount.trans hcount) hpair' hback

/-- Settles O56: what ENC leaves of the schedule and the final keys is what its SCR left. -/
theorem decInvertsEnc : Obligations.DecInvertsEnc := by
  intro s hinv hd hr
  have hexec := exec_enc_of_legal hd hr
  refine ⟨_, hexec, fun u huinv hparams hdimH hdimW hrounds hrmax hpair hfk1 hfk2 himg => ?_⟩
  have halters := altersOnly_of_exec hexec
  have hheight : u.height = s.height := (congrArg BitVec.toNat hdimH).trans halters.height
  have hwidth : u.width = s.width := (congrArg BitVec.toNat hdimW).trans halters.width
  have hcount : u.roundCount = s.roundCount := (congrArg BitVec.toNat hrounds).trans halters.roundCount
  have hud : u.DimsLegal := hd.congr (hparams.trans halters.params) hheight hwidth
  have hur : u.RoundsLegal := hr.congr hcount (hrmax.trans halters.rmax)
  have hwindow : u.HasWindow s.height s.width := hheight ▸ hwidth ▸ huinv.hasWindow hud
  rw [halters.roundCount] at hpair
  simp only [State.complete_pair, State.encodeImage_pair] at hpair
  have hfk1' : u.fk1 = s.scramble.fk1 := hfk1.trans s.encodeImage_fk1
  have hfk2' : u.fk2 = s.scramble.fk2 := hfk2.trans s.encodeImage_fk2
  exact ⟨_, exec_dec_of_legal hud hur, hinv.decodeImage_of_encoded hd hr hwindow hcount hpair hfk1' hfk2' himg⟩

end Sys2Proof.Machine
end

section
/-! PROOFS. Command errors (`60_exceptions.md` R190 to R200): the error a command's checks report, in the order of R198,
and that the command aborts with exactly this error or, when there is none, completes. -/

namespace Sys2Proof.Machine

/-! ### The round sequences leave STATUS alone -/

@[simp] theorem State.scramble_status (s : State) : s.scramble.status = s.status := by simp [State.scramble_eq]

@[simp] theorem State.unscrambleRounds_status (s : State) (n : Nat) : (s.unscrambleRounds n).status = s.status := by
  induction n generalizing s with
  | zero => rfl
  | succ n ih => simp [State.unscrambleRounds_succ, State.unscrambleRound, ih]

@[simp] theorem State.unscramble_status (s : State) : s.unscramble.status = s.status := by simp [State.unscramble_eq]

@[simp] theorem State.decodeImage_status (s : State) : s.decodeImage.status = s.status := by
  simp [State.decodeImage_eq, State.decodePlanes]

/-! ### The checks of a command -/

/-- The code reported by a check of `P` followed by further checks: the first that fails (`60_exceptions.md` R198). -/
def require (P : Prop) [Decidable P] (e : ErrCode) (further : Option ErrCode) : Option ErrCode :=
  if P then further else some e

theorem require_eq_some {P : Prop} [Decidable P] {e c : ErrCode} {further : Option ErrCode} :
    require P e further = some c ↔ (P ∧ further = some c) ∨ (¬ P ∧ e = c) := by
  by_cases hP : P <;> simp [require, hP]

/-- The error a command's checks report, if any: the "raised by" column of `60_exceptions.md` R191. -/
def State.firstError (s : State) : Instr → Option ErrCode
  | .nop | .errclr | .kupd | .kfin => none
  | .decomp | .recomp | .rowp _ | .colp _ | .frota _ | .pshuf => require s.DimsLegal .dim none
  | .frot p _ | .frotk p _ => require s.DimsLegal .dim (require (PlaneLegal p) .plane none)
  | .scr | .uscr | .enc | .dec => require s.DimsLegal .dim (require s.RoundsLegal .rounds none)
  | .kst r | .kld r => require (s.SlotLegal r) .rounds none

/-- The checks read neither STATUS nor PEND (`60_exceptions.md` R200). -/
theorem State.firstError_with_status_pend (s : State) (st : Status) (w : Word) (i : Instr) :
    State.firstError { s with status := st, pend := w } i = s.firstError i := rfl

theorem State.firstError_eq_dim {s : State} {i : Instr} :
    s.firstError i = some .dim ↔ usesDims i = true ∧ ¬ s.DimsLegal := by
  cases i <;> simp [State.firstError, require_eq_some, usesDims]

theorem State.firstError_eq_plane {s : State} {i : Instr} : s.firstError i = some .plane ↔
    s.DimsLegal ∧ ((∃ p steps, i = .frot p steps ∧ 24 ≤ p) ∨ ∃ p dir, i = .frotk p dir ∧ 24 ≤ p) := by
  cases i <;> simp [State.firstError, require_eq_some]

theorem State.firstError_eq_rounds {s : State} {i : Instr} : s.firstError i = some .rounds ↔
    (s.DimsLegal ∧ ¬ s.RoundsLegal ∧ (i = .scr ∨ i = .uscr ∨ i = .enc ∨ i = .dec)) ∨
      ∃ r, (i = .kst r ∨ i = .kld r) ∧ s.rmax ≤ r := by
  cases i <;> simp [State.firstError, require_eq_some]

/-- E_ILLCMD is the decoder's, before a command is there to check (`60_exceptions.md` R193). -/
theorem State.firstError_ne_illCmd (s : State) (i : Instr) : s.firstError i ≠ some .illCmd := by
  cases i <;> simp [State.firstError, require_eq_some]

/-! ### The outcome, by what the checks report -/

/-- `o` is the outcome that checks reporting `e` call for: the abort with that error, or a completion, which records no
error of its own. -/
inductive State.Answers (s : State) : Option ErrCode → Outcome → Prop where
  | aborts (e : ErrCode) : s.Answers (some e) (.next (s.raise e))
  | completes {u : State} (herr : u.status.err = true → s.status.err = true) : s.Answers none (.next u.complete)

/-- Data operations leave STATUS alone, so completing after them records no error. -/
theorem State.answers_of_status_eq {s u : State} (h : u.status = s.status) : s.Answers none (.next u.complete) :=
  .completes fun herr => h ▸ herr

/-- A test of a meaning and the check of the same condition. -/
theorem State.Answers.guard {s : State} {further : Option ErrCode} {go : Outcome} (h : s.Answers further go) (P : Prop)
    [Decidable P] (e : ErrCode) : s.Answers (require P e further) (if P then go else .next (s.raise e)) := by
  by_cases hP : P
  · simpa only [require, if_pos hP] using h
  · simpa only [require, if_neg hP] using .aborts e

section
variable {s : State} {further : Option ErrCode} {go : Outcome}

theorem State.Answers.withDims (h : s.Answers further go) :
    s.Answers (require s.DimsLegal .dim further) (s.withDims go) := h.guard _ _

theorem State.Answers.withPlane (h : s.Answers further go) (p : Nat) :
    s.Answers (require (PlaneLegal p) .plane further) (s.withPlane p go) := h.guard _ _

theorem State.Answers.withRounds (h : s.Answers further go) :
    s.Answers (require s.RoundsLegal .rounds further) (s.withRounds go) := h.guard _ _

theorem State.Answers.withSlot (h : s.Answers further go) (r : Nat) :
    s.Answers (require (s.SlotLegal r) .rounds further) (s.withSlot r go) := h.guard _ _

end

/-- Every command makes its checks and aborts with the first error they report, or completes. -/
theorem exec_answers (i : Instr) (s : State) : s.Answers (s.firstError i) (exec i s) := by
  cases i with
  | nop => exact State.answers_of_status_eq rfl
  | errclr => exact .completes (u := s.clearError) (nomatch ·)
  | decomp => exact (State.answers_of_status_eq s.decompose_status).withDims
  | recomp => exact (State.answers_of_status_eq s.recompose_status).withDims
  | rowp dir => exact (State.answers_of_status_eq (s.rowPass_status dir)).withDims
  | colp dir => exact (State.answers_of_status_eq (s.colPass_status dir)).withDims
  | kupd => exact State.answers_of_status_eq s.updateKeys_status
  | kst r => exact (State.answers_of_status_eq (s.storePair_status r)).withSlot r
  | kld r => exact (State.answers_of_status_eq (s.loadPair_status r)).withSlot r
  | kfin => exact State.answers_of_status_eq s.finalPair_status
  | scr => exact (State.answers_of_status_eq s.scramble_status).withRounds.withDims
  | uscr => exact (State.answers_of_status_eq s.unscramble_status).withRounds.withDims
  | frot p steps => exact ((State.answers_of_status_eq (s.rotatePlane_status p steps)).withPlane p).withDims
  | frotk p dir => exact ((State.answers_of_status_eq (s.rotatePlane_status p _)).withPlane p).withDims
  | frota dir => exact (State.answers_of_status_eq (s.rotateAll_status dir)).withDims
  | pshuf => exact (State.answers_of_status_eq s.shuffle_status).withDims
  | enc => exact (State.answers_of_status_eq s.encodeImage_status).withRounds.withDims
  | dec => exact (State.answers_of_status_eq s.decodeImage_status).withRounds.withDims

/-- The abort, without the invariant that `State.Answers.eq_raise_iff` needs to tell it from a completion. -/
theorem State.Answers.eq_raise {s : State} {e : ErrCode} {o : Outcome} (h : s.Answers (some e) o) :
    o = .next (s.raise e) := by
  cases h
  rfl

theorem exec_of_firstError {s : State} {i : Instr} {e : ErrCode} (h : s.firstError i = some e) :
    exec i s = .next (s.raise e) := (h ▸ exec_answers i s).eq_raise

theorem State.Answers.next_cases {s : State} {e : Option ErrCode} {o : Outcome} (h : s.Answers e o) :
    (∃ c, o = .next (s.raise c)) ∨ ∃ u : State, o = .next u.complete := by
  cases h with
  | aborts c => exact .inl ⟨c, rfl⟩
  | completes _ => exact .inr ⟨_, rfl⟩

/-- An illegal word answers E_ILLCMD, any other word as its command does. -/
theorem State.engineStep_answers (s : State) (w : Word) : ∃ e, s.Answers e (s.engineStep w) := by
  obtain ⟨i, -, ho⟩ | ⟨_, -, ho⟩ := s.engineStep_cases w
  · rw [ho]
    exact ⟨_, exec_answers i s⟩
  · rw [ho]
    exact ⟨_, .aborts .illCmd⟩

/-! ### Aborts and completions are told apart -/

theorem ErrCode.code_injective : Function.Injective ErrCode.code := by
  intro e c
  cases e <;> cases c <;> decide

theorem State.raise_injective (s : State) : Function.Injective s.raise := fun _ _ h =>
  ErrCode.code_injective (congrArg (·.status.errcode) h)

/-- An abort has ERR 1 and the old DONE, a completion DONE 1 and the old ERR: they are the same state only if both bits
were 1 before, which the invariant excludes. -/
theorem State.Inv.complete_ne_raise {s u : State} (hinv : s.Inv) (herr : u.status.err = true → s.status.err = true)
    (e : ErrCode) : u.complete ≠ s.raise e := by
  intro h
  have hdone : s.status.done = true := (congrArg (·.status.done) h).symm
  have hraised : u.status.err = true := congrArg (·.status.err) h
  exact absurd (herr hraised) (Bool.eq_false_iff.1 (hinv.doneIdle hdone).2)

theorem State.Answers.eq_raise_iff {s : State} {e : Option ErrCode} {o : Outcome} (h : s.Answers e o) (hinv : s.Inv)
    (c : ErrCode) : o = .next (s.raise c) ↔ e = some c := by
  cases h with
  | aborts e => rw [Host.Outcome.next.injEq, s.raise_injective.eq_iff, Option.some.injEq]
  | completes herr => exact iff_of_false (fun h => hinv.complete_ne_raise herr c (Host.Outcome.next.inj h)) nofun

/-- A command raises an error exactly when its checks report it. -/
theorem exec_eq_raise_iff {s : State} (hinv : s.Inv) {i : Instr} {e : ErrCode} :
    exec i s = .next (s.raise e) ↔ s.firstError i = some e := (exec_answers i s).eq_raise_iff hinv e

/-! ### The statements -/

/-- Settles O10: the checks decide, and `firstError` lists them. -/
theorem eachCommandRaisesExactlyItsErrors : Obligations.EachCommandRaisesExactlyItsErrors := fun i s hinv =>
  ⟨(exec_eq_raise_iff hinv).trans State.firstError_eq_dim, (exec_eq_raise_iff hinv).trans State.firstError_eq_plane,
    (exec_eq_raise_iff hinv).trans State.firstError_eq_rounds,
    (exec_eq_raise_iff hinv).not.2 (s.firstError_ne_illCmd i)⟩

/-- Settles O11: the checks that failed do not read what changed. -/
theorem failedCommandFailsAgain : Obligations.FailedCommandFailsAgain := by
  intro i s e st w hinv hfailed
  have herror : s.firstError i = some e := (exec_eq_raise_iff hinv).1 hfailed
  exact exec_of_firstError ((s.firstError_with_status_pend st w i).trans herror)

/-- DONE is 0 while BUSY is 1, so an abort "keeps" the 0 it has had since acceptance (`60_exceptions.md` R192). -/
theorem State.Inv.raise_eq {s : State} (hinv : s.Inv) (hbusy : s.status.busy = true) (e : ErrCode) :
    s.raise e = { s with status := { busy := false, done := false, err := true, errcode := e.code } } := by
  have hdone : s.status.done = false := Bool.eq_false_iff.2 fun h => absurd (hinv.doneIdle h).1 (by simp [hbusy])
  rw [State.raise, Status.raise, hdone]

/-- Settles O7: the Engine step aborts, or completes and keeps the invariant, by which DONE 1 excludes an error. -/
theorem engineStepCompletesOrAbortsPrecisely : Obligations.EngineStepCompletesOrAbortsPrecisely := by
  intro s hinv hturn hbusy
  have hengine : step s = s.engineStep s.pend := (step_of_no_turn hturn).trans (State.settle_of_busy hbusy)
  obtain ⟨_, hanswers⟩ := s.engineStep_answers s.pend
  obtain ⟨e, ho⟩ | ⟨u, ho⟩ := hanswers.next_cases
  · exact ⟨_, hengine.trans ho, rfl, .inr ⟨e, hinv.raise_eq hbusy e⟩⟩
  · have hkept : u.complete.Inv := stepKeepsInv s _ hinv (hengine.trans ho)
    obtain ⟨-, herr⟩ := hkept.doneIdle rfl
    exact ⟨_, hengine.trans ho, rfl, .inl ⟨rfl, herr, hkept.errcodeZero.1 herr⟩⟩

/-- With legal sizes USCR and DEC complete, in whatever state they find the rest (`60_exceptions.md` R197). -/
theorem exec_completes_of_decoding {s : State} (hd : s.DimsLegal) (hr : s.RoundsLegal) {i : Instr}
    (hi : i = .uscr ∨ i = .dec) : ∃ t, exec i s = .next t ∧ t.status = s.status.complete := by
  obtain rfl | rfl := hi
  · exact ⟨_, exec_uscr_of_legal hd hr, congrArg Status.complete s.unscramble_status⟩
  · exact ⟨_, exec_dec_of_legal hd hr, congrArg Status.complete s.decodeImage_status⟩

/-- Settles O58: of the contents replaced, the sizes depend on the number of slots only. -/
theorem scheduleMismatchIsSilent : Obligations.ScheduleMismatchIsSilent := by
  intro s i k1 k2 f1 f2 pairs m hd hr hslots hi
  refine exec_completes_of_decoding ?_ ?_ hi
  · exact hd
  · exact hr.congr rfl hslots

end Sys2Proof.Machine
end

section
/-! PROOFS. Reset (`10_state.md` R37, `70_reset_and_hazards.md` R220, R221): the invariant after reset, and the reset edge,
which drops the transaction in progress and keeps what the abandoned command only reads. -/

namespace Sys2Proof.Machine

/-! ### The state after reset -/

/-- The state after reset of a block of legal size whose uncleared storage fits it. -/
theorem State.inv_powerUp {p : Config.Params} {c : Storage} (hp : p.Legal)
    (hslots : 1 ≤ c.rks.length ∧ c.rks.length ≤ 62) (hwf : c.mem.wf = true) (hfits : c.mem.Fits p) :
    (State.powerUp p c).Inv :=
  (State.inv_iff _).2 ⟨⟨hp, hslots, hwf, hfits⟩, Status.ok_cleared _⟩

/-- Settles O9: `State.reset` is the case of the default parameters and zero storage. -/
theorem resetHasInv : Obligations.ResetHasInv := by
  refine ⟨?_, fun p c hp hlow hhigh hwf hfits => State.inv_powerUp hp ⟨hlow, hhigh⟩ hwf hfits⟩
  have hslots : (Storage.zero Config.defaultRmax).rks.length = 16 := List.length_replicate
  exact State.inv_powerUp (by decide) (by omega) rfl fun _ hcell => nomatch hcell

/-! ### The reset edge -/

/-- A reset edge does not read the port (`70_reset_and_hazards.md` R220). -/
theorem State.resetEdge_of_port (s : State) (held : Option Transaction) :
    State.resetEdge { s with port := held } = s.resetEdge := rfl

/-- A reset edge keeps the turns to come and does not read them. -/
theorem State.resetEdge_of_agenda (s : State) (rest : List Turn) :
    State.resetEdge { s with agenda := rest } = { s.resetEdge with agenda := rest } := rfl

/-- A reset waits for nothing, whatever the port holds. -/
theorem step_of_reset_turn {s : State} {rest : List Turn} (h : s.agenda = .reset :: rest) :
    step s = .next { s.resetEdge with agenda := rest } := by
  simp only [step, State.advance, h, State.mustWait, Bool.false_eq_true, if_false, State.takeTurn]
  exact congrArg Host.Outcome.next (s.resetEdge_of_agenda rest)

/-- Settles O20: the fields are those of `State.powerUp`, and no state the port may be in changes the next one. -/
theorem resetEdgeDropsAndClears : Obligations.ResetEdgeDropsAndClears := by
  intro s rest hturn
  have hdropped (held : Option Transaction) :
      step { s with port := held } = .next { s.resetEdge with agenda := rest } := by
    rw [step_of_reset_turn (s := { s with port := held }) hturn, s.resetEdge_of_port]
  exact ⟨_, step_of_reset_turn hturn, rfl, rfl, rfl, rfl, rfl, rfl, rfl, s.resetEdge_rmax, hdropped⟩

/-! ### What the abandoned command only reads (`70_reset_and_hazards.md` R221) -/

theorem State.abandoned_of_decode {s : State} {i : Instr} (hbusy : s.status.busy = true) (hdec : decode s.pend = .ok i) :
    s.abandoned = some i := by
  simp only [State.abandoned, State.fetch_eq_some.2 ⟨hbusy, rfl⟩, hdec, Except.toOption]

section

variable {s : State} {i : Instr}

/-- A key slot the abandoned command only reads keeps its key. -/
theorem State.keyAfterReset_of_onlyReads (ha : s.abandoned = some i) {slot : Nat}
    (hread : i.onlyReadsKey s slot = true) : s.keyAfterReset slot = s.key slot := by
  simp only [State.keyAfterReset, ha, hread, if_true]

/-- A slot of the schedule after a reset (`20_memory.md` R56 numbers its two keys). -/
theorem State.resetEdge_pair {r : Nat} (hr : r < s.rmax) :
    s.resetEdge.pair r = { k1 := s.keyAfterReset (4 + 2 * r), k2 := s.keyAfterReset (5 + 2 * r) } := by
  have hlt : r < s.resetEdge.rks.length := hr.trans_eq s.resetEdge_rmax.symm
  rw [State.pair_eq_getElem hlt]
  simp [State.resetEdge, State.powerUp, State.storageAfterReset]

/-- A slot of the schedule both of whose keys the abandoned command only reads keeps its pair. -/
theorem State.resetEdge_pair_of_onlyReads (ha : s.abandoned = some i) {r : Nat} (hr : r < s.rmax)
    (hk1 : i.onlyReadsKey s (4 + 2 * r) = true) (hk2 : i.onlyReadsKey s (5 + 2 * r) = true) :
    s.resetEdge.pair r = s.pair r := by
  rw [State.resetEdge_pair hr, State.keyAfterReset_of_onlyReads ha hk1, State.keyAfterReset_of_onlyReads ha hk2,
    s.key_evenSlot, s.key_oddSlot]

/-- K1 and K2, when the abandoned command only reads both. -/
theorem State.resetEdge_keys_of_onlyReads (ha : s.abandoned = some i) (hk1 : i.onlyReadsKey s 0 = true)
    (hk2 : i.onlyReadsKey s 1 = true) : s.resetEdge.k1 = s.k1 ∧ s.resetEdge.k2 = s.k2 :=
  ⟨State.keyAfterReset_of_onlyReads ha hk1, State.keyAfterReset_of_onlyReads ha hk2⟩

/-- FK1 and FK2, when the abandoned command only reads both. -/
theorem State.resetEdge_finalKeys_of_onlyReads (ha : s.abandoned = some i) (hk1 : i.onlyReadsKey s 2 = true)
    (hk2 : i.onlyReadsKey s 3 = true) : s.resetEdge.fk1 = s.fk1 ∧ s.resetEdge.fk2 = s.fk2 :=
  ⟨State.keyAfterReset_of_onlyReads ha hk1, State.keyAfterReset_of_onlyReads ha hk2⟩

theorem onlyReadsKey_uscr {slot : Nat} :
    Instr.uscr.onlyReadsKey s slot = true ↔ 4 ≤ slot ∧ slot < 4 + 2 * s.roundCount := by
  simp [Instr.onlyReadsKey]

theorem onlyReadsKey_dec {slot : Nat} :
    Instr.dec.onlyReadsKey s slot = true ↔ 2 ≤ slot ∧ slot < 4 + 2 * s.roundCount := by
  simp [Instr.onlyReadsKey]

/-- USCR and DEC only read both keys of the pairs below ROUNDS. -/
theorem onlyReadsKey_of_decoding (hi : i = .uscr ∨ i = .dec) {r slot : Nat} (hr : r < s.roundCount)
    (hslot : slot = 4 + 2 * r ∨ slot = 5 + 2 * r) : i.onlyReadsKey s slot = true := by
  obtain rfl | rfl := hi
  · exact onlyReadsKey_uscr.2 (by omega)
  · exact onlyReadsKey_dec.2 (by omega)

/-- Abandoning DECOMP writes the active window of IMG back over the free contents. -/
theorem State.resetEdge_mem_of_decomp (ha : s.abandoned = some .decomp) (hd : s.DimsLegal) :
    s.resetEdge.mem = (State.setImgWindow { s with mem := s.residueMem } s.img).mem := by
  obtain ⟨-, hh, -, hw⟩ := hd
  change s.memAfterReset = _
  simp only [State.memAfterReset, ha, Nat.min_eq_left hh, Nat.min_eq_left hw]
  rfl

/-- Abandoning RECOMP writes the active window of PLN back over the free contents. -/
theorem State.resetEdge_mem_of_recomp (ha : s.abandoned = some .recomp) (hd : s.DimsLegal) :
    s.resetEdge.mem = (State.setPlnWindow { s with mem := s.residueMem } planes s.pln).mem := by
  obtain ⟨-, hh, -, hw⟩ := hd
  change s.memAfterReset = _
  simp only [State.memAfterReset, ha, Nat.min_eq_left hh, Nat.min_eq_left hw]
  rfl

theorem State.Inv.resetEdge_sameImgWindow (h : s.Inv) (ha : s.abandoned = some .decomp) (hd : s.DimsLegal) :
    SameImgWindow s s.resetEdge := by
  intro c y x hc hy hx
  have hwindow := h.hasWindow hd
  rw [State.img, State.resetEdge_mem_of_decomp ha hd]
  exact State.setImgWindow_img (s := { s with mem := s.residueMem }) s.wf_residueMem hwindow.heightLe hwindow.widthLe
    s.img hc hy hx

theorem State.Inv.resetEdge_samePlnWindow (h : s.Inv) (ha : s.abandoned = some .recomp) (hd : s.DimsLegal) :
    SamePlnWindow s s.resetEdge := by
  intro p y x hp hy hx
  have hwindow := h.hasWindow hd
  rw [State.pln, State.resetEdge_mem_of_recomp ha hd]
  exact State.setPlnWindow_pln (s := { s with mem := s.residueMem }) s.wf_residueMem hwindow.heightLe hwindow.widthLe
    s.pln (mem_planes.2 hp) hy hx

end

/-- Settles O21: command by command, what the table of `10_state.md` R36 lists as read and not written. -/
theorem abandonedCommandKeepsWhatItOnlyReads : Obligations.AbandonedCommandKeepsWhatItOnlyReads := by
  intro s rest i hinv hturn hbusy hdec
  have ha : s.abandoned = some i := State.abandoned_of_decode hbusy hdec
  refine ⟨_, step_of_reset_turn hturn, rfl, ?decomp, ?recomp, ?rowp, ?colp, ?kst, ?kld, ?kfin, ?schedule, ?finalKeys⟩
  case decomp =>
    rintro rfl hd
    exact hinv.resetEdge_sameImgWindow ha hd
  case recomp =>
    rintro rfl hd
    exact hinv.resetEdge_samePlnWindow ha hd
  case rowp =>
    rintro dir rfl
    exact State.keyAfterReset_of_onlyReads ha (slot := 0) rfl
  case colp =>
    rintro dir rfl
    exact State.keyAfterReset_of_onlyReads ha (slot := 1) rfl
  case kst =>
    rintro r rfl
    exact State.resetEdge_keys_of_onlyReads ha rfl rfl
  case kld =>
    rintro r rfl hr
    exact State.resetEdge_pair_of_onlyReads ha hr (by simp [Instr.onlyReadsKey]) (by simp [Instr.onlyReadsKey])
  case kfin =>
    rintro rfl
    exact State.resetEdge_keys_of_onlyReads ha rfl rfl
  case schedule =>
    intro hi r hcount hr
    exact State.resetEdge_pair_of_onlyReads ha hr (onlyReadsKey_of_decoding hi hcount (.inl rfl))
      (onlyReadsKey_of_decoding hi hcount (.inr rfl))
  case finalKeys =>
    rintro (⟨p, dir, rfl⟩ | ⟨dir, rfl⟩ | rfl)
    · exact State.resetEdge_finalKeys_of_onlyReads ha rfl rfl
    · exact State.resetEdge_finalKeys_of_onlyReads ha rfl rfl
    · exact State.resetEdge_finalKeys_of_onlyReads ha (onlyReadsKey_dec.2 (by omega))
        (onlyReadsKey_dec.2 (by omega))

end Sys2Proof.Machine
end
